-- ==== Sys2Proof/Word.lean ====
section
/-!
DEFINITION. The word types of the block and their plainest arithmetic (spec/00_scope.md R8, R9, R11).
-/

namespace Sys2Proof

/-- u32: a command word, a response word, a counter (R8). -/
abbrev Word := BitVec 32
/-- u8: one octet of a frame, one field element, one table entry (R8). -/
abbrev Byte := BitVec 8
/-- u16: an FCS or a CRC residue (R8). -/
abbrev Half := BitVec 16
/-- u64: a correlation tag (R8). -/
abbrev Long := BitVec 64
/-- i16: one signed sample or filter coefficient, two's complement (R7, R8). -/
abbrev Sample := BitVec 16
/-- A metadata nibble (R87). -/
abbrev Nibble := BitVec 4

/-- `zext_32` of R8: widening with zeros to a response word. -/
def Word.ofBits {w : Nat} (v : BitVec w) : Word := v.setWidth 32

/-- A natural number as a response word (R241: every value written is at most 32 bits wide). -/
def Word.ofNat (n : Nat) : Word := BitVec.ofNat 32 n

/-- A boolean as a response word: 1 or 0 (R190, R191). -/
def Word.ofBool (b : Bool) : Word := if b then 1 else 0

end Sys2Proof
end

