-- ==== Sys2Proof/Syntax.lean ====
section
/-!
DEFINITION. The command syntax: one constructor per row of spec/opcode_table.json (spec/30_encoding.md R87, R88), and the
assembler's pseudo-instructions (R95).
-/

namespace Sys2Proof

/-- A command of the block. Operands are the fields of R87: an unsigned number is a natural number, an octet, a GF table
index and a metadata nibble are bit vectors. `WellFormed` says which numbers the fields can hold. -/
inductive Instr where
  /-- NOP (R110). -/
  | nop
  /-- SYS_INIT (R111). -/
  | sysInit
  /-- STAT_READ sel (R112). -/
  | statRead (sel : Nat)
  /-- DEMOD_START tw (R141). -/
  | demodStart (tw : Nat)
  /-- DEMOD_STOP (R142). -/
  | demodStop
  /-- DEMOD_PROCESS (R143). -/
  | demodProcess
  /-- DEMOD_LOCKED (R144). -/
  | demodLocked
  /-- HDLC_RX_BIT inst, bit (R145). -/
  | hdlcRxBit (inst : Nat) (bit : Bool)
  /-- FRAME_ACQUIRE (R180). -/
  | frameAcquire
  /-- FRAME_RELEASE h (R181). -/
  | frameRelease (h : Nat)
  /-- FRAME_CLEAR h (R182). -/
  | frameClear (h : Nat)
  /-- FRAME_APPEND h, b (R183). -/
  | frameAppend (h : Nat) (b : Byte)
  /-- FRAME_READ h, idx (R184). -/
  | frameRead (h : Nat) (idx : Nat)
  /-- FRAME_SIZE h (R185). -/
  | frameSize (h : Nat)
  /-- FRAME_SET_META h, src, type (R186). -/
  | frameSetMeta (h : Nat) (src typ : Nibble)
  /-- FRAME_GET_META h (R187). -/
  | frameGetMeta (h : Nat)
  /-- FRAME_PARSE_FCS h (R188). -/
  | frameParseFcs (h : Nat)
  /-- FRAME_ADD_FCS h (R189). -/
  | frameAddFcs (h : Nat)
  /-- FRAME_OK h (R190). -/
  | frameOk (h : Nat)
  /-- FRAME_COMPLETE h (R191). -/
  | frameComplete (h : Nat)
  /-- FRAME_GET_FCS h (R192). -/
  | frameGetFcs (h : Nat)
  /-- FRAME_GET_CRC h (R193). -/
  | frameGetCrc (h : Nat)
  /-- HDLC_STUFF h (R194). -/
  | hdlcStuff (h : Nat)
  /-- FX25_PICK_MODE len (R220). -/
  | fx25PickMode (len : Nat)
  /-- FX25_TAG mode (R222). -/
  | fx25Tag (mode : Nat)
  /-- FX25_TAG_SELFTEST (R221). -/
  | fx25TagSelftest
  /-- RS_ENCODE mode, h (R223). -/
  | rsEncode (mode : Nat) (h : Nat)
  /-- GF_ALPHA x (R224). -/
  | gfAlpha (x : Byte)
  /-- GF_LOG x (R225). -/
  | gfLog (x : Byte)
  /-- RS_GENPOLY sel, idx (R226). -/
  | rsGenpoly (sel : Nat) (idx : Nat)
  deriving DecidableEq, Repr

/-- The assembler's pseudo-instructions (R95). -/
inductive Pseudo where
  /-- FRAME_APPEND_BYTES h, b0, b1, ... -/
  | frameAppendBytes (h : Nat) (bytes : List Byte)
  /-- HDLC_RX_OCTETS inst, o0, o1, ... -/
  | hdlcRxOctets (inst : Nat) (octets : List Byte)
  /-- STAT_STATE -/
  | statState
  deriving DecidableEq, Repr

end Sys2Proof
end

