-- ==== Sys2Proof/WellFormed.lean ====
section
/-!
DEFINITION. Which commands the encoding can hold: every operand number fits its field (spec/30_encoding.md R86, R87).
Legal ranges are NOT checked here: a value outside them decodes and the command reports it (R91).
-/

namespace Sys2Proof

/-- Every operand fits the width of its field (R87, column "range encoded"). -/
def Instr.wellFormed : Instr → Bool
  | .nop => true
  | .sysInit => true
  | .statRead sel => sel < 16
  | .demodStart tw => tw < 256
  | .demodStop => true
  | .demodProcess => true
  | .demodLocked => true
  | .hdlcRxBit inst _ => inst < 4
  | .frameAcquire => true
  | .frameRelease h => h < 64
  | .frameClear h => h < 64
  | .frameAppend h _ => h < 64
  | .frameRead h idx => h < 64 && idx < 65536
  | .frameSize h => h < 64
  | .frameSetMeta h _ _ => h < 64
  | .frameGetMeta h => h < 64
  | .frameParseFcs h => h < 64
  | .frameAddFcs h => h < 64
  | .frameOk h => h < 64
  | .frameComplete h => h < 64
  | .frameGetFcs h => h < 64
  | .frameGetCrc h => h < 64
  | .hdlcStuff h => h < 64
  | .fx25PickMode len => len < 512
  | .fx25Tag mode => mode < 16
  | .fx25TagSelftest => true
  | .rsEncode mode h => mode < 16 && h < 64
  | .gfAlpha _ => true
  | .gfLog _ => true
  | .rsGenpoly sel idx => sel < 4 && idx < 128

/-- The well-formed commands. -/
abbrev Instr.WellFormed (i : Instr) : Prop := i.wellFormed = true

end Sys2Proof
end

