-- ==== Sys2Proof/Decode.lean ====
section
/-!
DEFINITION. The command encoding: formats, decoder, encoder, assembler (spec/30_encoding.md R85-R96).
-/

namespace Sys2Proof

/-- The 13 command formats (R86). -/
inductive Format where
  | n | h | hb | hi | hm | t | l | m | mh | x | g | ib | s
  deriving DecidableEq, Repr

/-- The mask column of R86: a 1 in every opcode bit and every reserved bit. -/
def Format.mask : Format → Word
  | .n => 0xFFFFFFFF
  | .h => 0xFC0FFFFF
  | .hb => 0xFC0FFF00
  | .hi => 0xFC0F0000
  | .hm => 0xFC0FFF00
  | .t => 0xFFFFFF00
  | .l => 0xFFFFFE00
  | .m => 0xFFFFFFF0
  | .mh => 0xFC0FFFF0
  | .x => 0xFFFFFF00
  | .g => 0xFFFFFC80
  | .ib => 0xFCFFFFFE
  | .s => 0xFFFFFFF0

/-- `w[hi:lo]` as an unsigned number (R8). -/
def bits (w : Word) (hi lo : Nat) : Nat := (w.extractLsb hi lo).toNat

/-- The opcode field OP, bits [31:26] (R85). -/
def opcode (w : Word) : Nat := bits w 31 26

/-- `match` of R86 and R89: the opcode at its place, every other bit 0. -/
def matchWord (op : Nat) : Word := BitVec.ofNat 32 op <<< 26

/-- Why a word is no command (R90). -/
inductive Illegal where
  /-- The opcode is not assigned in R88's map. -/
  | unassignedOpcode (op : Nat)
  /-- A reserved-zero bit of the opcode's format is 1. -/
  | reservedBits (op : Nat)
  deriving DecidableEq, Repr

/-- The shape test of R86 and R89 for an assigned opcode: `(w & mask_F) == (op << 26)`. -/
def shaped (op : Nat) (f : Format) (w : Word) (i : Instr) : Except Illegal Instr :=
  if w &&& f.mask = matchWord op then .ok i else .error (.reservedBits op)

/-- Decoding, total on all words (R87-R91). -/
def decode (w : Word) : Except Illegal Instr :=
  match opcode w with
  | 0x00 => shaped 0x00 .n w .nop
  | 0x01 => shaped 0x01 .n w .sysInit
  | 0x02 => shaped 0x02 .s w (.statRead (bits w 3 0))
  | 0x08 => shaped 0x08 .t w (.demodStart (bits w 7 0))
  | 0x09 => shaped 0x09 .n w .demodStop
  | 0x0A => shaped 0x0A .n w .demodProcess
  | 0x0B => shaped 0x0B .n w .demodLocked
  | 0x0C => shaped 0x0C .ib w (.hdlcRxBit (bits w 25 24) (w.getLsbD 0))
  | 0x10 => shaped 0x10 .n w .frameAcquire
  | 0x11 => shaped 0x11 .h w (.frameRelease (bits w 25 20))
  | 0x12 => shaped 0x12 .h w (.frameClear (bits w 25 20))
  | 0x13 => shaped 0x13 .hb w (.frameAppend (bits w 25 20) (w.extractLsb 7 0))
  | 0x14 => shaped 0x14 .hi w (.frameRead (bits w 25 20) (bits w 15 0))
  | 0x15 => shaped 0x15 .h w (.frameSize (bits w 25 20))
  | 0x16 => shaped 0x16 .hm w (.frameSetMeta (bits w 25 20) (w.extractLsb 7 4) (w.extractLsb 3 0))
  | 0x17 => shaped 0x17 .h w (.frameGetMeta (bits w 25 20))
  | 0x18 => shaped 0x18 .h w (.frameParseFcs (bits w 25 20))
  | 0x19 => shaped 0x19 .h w (.frameAddFcs (bits w 25 20))
  | 0x1A => shaped 0x1A .h w (.frameOk (bits w 25 20))
  | 0x1B => shaped 0x1B .h w (.frameComplete (bits w 25 20))
  | 0x1C => shaped 0x1C .h w (.frameGetFcs (bits w 25 20))
  | 0x1D => shaped 0x1D .h w (.frameGetCrc (bits w 25 20))
  | 0x1E => shaped 0x1E .h w (.hdlcStuff (bits w 25 20))
  | 0x20 => shaped 0x20 .l w (.fx25PickMode (bits w 8 0))
  | 0x21 => shaped 0x21 .m w (.fx25Tag (bits w 3 0))
  | 0x22 => shaped 0x22 .n w .fx25TagSelftest
  | 0x23 => shaped 0x23 .mh w (.rsEncode (bits w 3 0) (bits w 25 20))
  | 0x24 => shaped 0x24 .x w (.gfAlpha (w.extractLsb 7 0))
  | 0x25 => shaped 0x25 .x w (.gfLog (w.extractLsb 7 0))
  | 0x26 => shaped 0x26 .g w (.rsGenpoly (bits w 9 8) (bits w 6 0))
  | op => .error (.unassignedOpcode op)

/-- The opcode of a command (R88, column OP). -/
def Instr.opcode : Instr → Nat
  | .nop => 0x00
  | .sysInit => 0x01
  | .statRead _ => 0x02
  | .demodStart _ => 0x08
  | .demodStop => 0x09
  | .demodProcess => 0x0A
  | .demodLocked => 0x0B
  | .hdlcRxBit _ _ => 0x0C
  | .frameAcquire => 0x10
  | .frameRelease _ => 0x11
  | .frameClear _ => 0x12
  | .frameAppend _ _ => 0x13
  | .frameRead _ _ => 0x14
  | .frameSize _ => 0x15
  | .frameSetMeta _ _ _ => 0x16
  | .frameGetMeta _ => 0x17
  | .frameParseFcs _ => 0x18
  | .frameAddFcs _ => 0x19
  | .frameOk _ => 0x1A
  | .frameComplete _ => 0x1B
  | .frameGetFcs _ => 0x1C
  | .frameGetCrc _ => 0x1D
  | .hdlcStuff _ => 0x1E
  | .fx25PickMode _ => 0x20
  | .fx25Tag _ => 0x21
  | .fx25TagSelftest => 0x22
  | .rsEncode _ _ => 0x23
  | .gfAlpha _ => 0x24
  | .gfLog _ => 0x25
  | .rsGenpoly _ _ => 0x26

/-- The format of a command (R88, column format). -/
def Instr.format : Instr → Format
  | .nop => .n
  | .sysInit => .n
  | .statRead _ => .s
  | .demodStart _ => .t
  | .demodStop => .n
  | .demodProcess => .n
  | .demodLocked => .n
  | .hdlcRxBit _ _ => .ib
  | .frameAcquire => .n
  | .frameRelease _ => .h
  | .frameClear _ => .h
  | .frameAppend _ _ => .hb
  | .frameRead _ _ => .hi
  | .frameSize _ => .h
  | .frameSetMeta _ _ _ => .hm
  | .frameGetMeta _ => .h
  | .frameParseFcs _ => .h
  | .frameAddFcs _ => .h
  | .frameOk _ => .h
  | .frameComplete _ => .h
  | .frameGetFcs _ => .h
  | .frameGetCrc _ => .h
  | .hdlcStuff _ => .h
  | .fx25PickMode _ => .l
  | .fx25Tag _ => .m
  | .fx25TagSelftest => .n
  | .rsEncode _ _ => .mh
  | .gfAlpha _ => .x
  | .gfLog _ => .x
  | .rsGenpoly _ _ => .g

/-- A numeric field shifted to its position (R96). -/
def place (v pos : Nat) : Word := BitVec.ofNat 32 v <<< pos

/-- The operand bits of a command, each field at its position (R86, R96). -/
def Instr.operandBits : Instr → Word
  | .nop => 0
  | .sysInit => 0
  | .statRead sel => place sel 0
  | .demodStart tw => place tw 0
  | .demodStop => 0
  | .demodProcess => 0
  | .demodLocked => 0
  | .hdlcRxBit inst bit => place inst 24 ||| place bit.toNat 0
  | .frameAcquire => 0
  | .frameRelease h => place h 20
  | .frameClear h => place h 20
  | .frameAppend h b => place h 20 ||| place b.toNat 0
  | .frameRead h idx => place h 20 ||| place idx 0
  | .frameSize h => place h 20
  | .frameSetMeta h src typ => place h 20 ||| place src.toNat 4 ||| place typ.toNat 0
  | .frameGetMeta h => place h 20
  | .frameParseFcs h => place h 20
  | .frameAddFcs h => place h 20
  | .frameOk h => place h 20
  | .frameComplete h => place h 20
  | .frameGetFcs h => place h 20
  | .frameGetCrc h => place h 20
  | .hdlcStuff h => place h 20
  | .fx25PickMode len => place len 0
  | .fx25Tag mode => place mode 0
  | .fx25TagSelftest => 0
  | .rsEncode mode h => place h 20 ||| place mode 0
  | .gfAlpha x => place x.toNat 0
  | .gfLog x => place x.toNat 0
  | .rsGenpoly sel idx => place sel 8 ||| place idx 0

/-- Encoding (R96): `(OP << 26) | field_1 << pos_1 | ...`, every reserved bit 0. -/
def encode (i : Instr) : Word := matchWord i.opcode ||| i.operandBits

/-- The word of a command given as `nbits` low bits of a number, every bit above them 0. -/
def wordOfTable (nbits w : Nat) : Word := BitVec.ofNat 32 (w % 2 ^ nbits)

/-- The command the decoder reads from a table row's bits. -/
def decodeTableWord (nbits w : Nat) : Option Instr := (decode (wordOfTable nbits w)).toOption

/-- The expansion of a pseudo-instruction, in order (R95). HDLC_RX_OCTETS sends bit 0 of each octet first (R71). -/
def Pseudo.expand : Pseudo → List Instr
  | .frameAppendBytes h bytes => bytes.map (.frameAppend h)
  | .hdlcRxOctets inst octets =>
    octets.flatMap fun o => (List.range 8).map fun k => .hdlcRxBit inst (o.getLsbD k)
  | .statState => [.statRead 0]

/-- The mnemonic of a command (R88). -/
def Instr.mnemonic : Instr → String
  | .nop => "NOP"
  | .sysInit => "SYS_INIT"
  | .statRead _ => "STAT_READ"
  | .demodStart _ => "DEMOD_START"
  | .demodStop => "DEMOD_STOP"
  | .demodProcess => "DEMOD_PROCESS"
  | .demodLocked => "DEMOD_LOCKED"
  | .hdlcRxBit _ _ => "HDLC_RX_BIT"
  | .frameAcquire => "FRAME_ACQUIRE"
  | .frameRelease _ => "FRAME_RELEASE"
  | .frameClear _ => "FRAME_CLEAR"
  | .frameAppend _ _ => "FRAME_APPEND"
  | .frameRead _ _ => "FRAME_READ"
  | .frameSize _ => "FRAME_SIZE"
  | .frameSetMeta _ _ _ => "FRAME_SET_META"
  | .frameGetMeta _ => "FRAME_GET_META"
  | .frameParseFcs _ => "FRAME_PARSE_FCS"
  | .frameAddFcs _ => "FRAME_ADD_FCS"
  | .frameOk _ => "FRAME_OK"
  | .frameComplete _ => "FRAME_COMPLETE"
  | .frameGetFcs _ => "FRAME_GET_FCS"
  | .frameGetCrc _ => "FRAME_GET_CRC"
  | .hdlcStuff _ => "HDLC_STUFF"
  | .fx25PickMode _ => "FX25_PICK_MODE"
  | .fx25Tag _ => "FX25_TAG"
  | .fx25TagSelftest => "FX25_TAG_SELFTEST"
  | .rsEncode _ _ => "RS_ENCODE"
  | .gfAlpha _ => "GF_ALPHA"
  | .gfLog _ => "GF_LOG"
  | .rsGenpoly _ _ => "RS_GENPOLY"

/-- A handle in assembler syntax, `hN` (R94). -/
def handleText (h : Nat) : String := "h" ++ toString h

/-- The operands of a command in the assembler's order (R94). -/
def Instr.operandTexts : Instr → List String
  | .nop => []
  | .sysInit => []
  | .statRead sel => [toString sel]
  | .demodStart tw => [toString tw]
  | .demodStop => []
  | .demodProcess => []
  | .demodLocked => []
  | .hdlcRxBit inst bit => [toString inst, toString bit.toNat]
  | .frameAcquire => []
  | .frameRelease h => [handleText h]
  | .frameClear h => [handleText h]
  | .frameAppend h b => [handleText h, toString b.toNat]
  | .frameRead h idx => [handleText h, toString idx]
  | .frameSize h => [handleText h]
  | .frameSetMeta h src typ => [handleText h, toString src.toNat, toString typ.toNat]
  | .frameGetMeta h => [handleText h]
  | .frameParseFcs h => [handleText h]
  | .frameAddFcs h => [handleText h]
  | .frameOk h => [handleText h]
  | .frameComplete h => [handleText h]
  | .frameGetFcs h => [handleText h]
  | .frameGetCrc h => [handleText h]
  | .hdlcStuff h => [handleText h]
  | .fx25PickMode len => [toString len]
  | .fx25Tag mode => [toString mode]
  | .fx25TagSelftest => []
  | .rsEncode mode h => [toString mode, handleText h]
  | .gfAlpha x => [toString x.toNat]
  | .gfLog x => [toString x.toNat]
  | .rsGenpoly sel idx => [toString sel, toString idx]

/-- One assembler line (R94), numbers in decimal. -/
def Instr.asm (i : Instr) : String :=
  match i.operandTexts with
  | [] => i.mnemonic
  | ops => i.mnemonic ++ " " ++ String.intercalate ", " ops

end Sys2Proof
end

