-- ==== Sys2Proof/Config.lean ====
section
/-!
DEFINITION. The OPEN parameters of the block (spec/00_scope.md R7; spec/93_implementation_defined.md section 3).

Each is an opaque constant without a body, so nothing in Lean can evaluate it and every statement holds for every value
the spec allows. A parameter with a range is written from a free natural number in such a way that it takes every value
of its range and no other. DESIGN CHOICE (log entries 6 and 7); safe.
-/

namespace Sys2Proof.Config

/-- Free number behind N. -/
opaque blockLenFree : Nat
/-- N, samples per sample block: 88 ≤ N ≤ 264 (R7). -/
def blockLen : Nat := 88 + blockLenFree % 177

/-- Free number behind SBQ_DEPTH. -/
opaque sbqDepthFree : Nat
/-- SBQ_DEPTH, blocks the sample queue holds: at least 1 (R7, R38). -/
def sbqDepth : Nat := 1 + sbqDepthFree

/-- Free number behind CHUNK_SIZE. -/
opaque chunkSizeFree : Nat
/-- CHUNK_SIZE, octets per chunk: 1 ≤ CHUNK_SIZE ≤ 1365 (R7, R36). -/
def chunkSize : Nat := 1 + chunkSizeFree % 1365

/-- Free number behind PF_TAPS. -/
opaque pfTapsFree : Nat
/-- PF_TAPS, pre-filter length: at least 1 (R121). -/
def pfTaps : Nat := 1 + pfTapsFree

/-- The pre-filter coefficients, by position. -/
opaque pfCoefAt : Nat → Sample
/-- PF_COEF, the list of PF_TAPS pre-filter coefficients (R30). -/
def pfCoef : List Sample := (List.range pfTaps).map pfCoefAt

/-- Free number behind TWIST_COUNT. -/
opaque twistCountFree : Nat
/-- TWIST_COUNT, number of de-emphasis filter sets: 1 ≤ TWIST_COUNT ≤ 256 (R7). -/
def twistCount : Nat := 1 + twistCountFree % 256

/-- Free number behind DE_TAPS. -/
opaque deTapsFree : Nat
/-- DE_TAPS, de-emphasis filter length: at least 1 (R122). -/
def deTaps : Nat := 1 + deTapsFree

/-- The de-emphasis coefficients, by twist, instance and position. -/
opaque deemphAt : Nat → Fin 3 → Nat → Sample
/-- DEEMPH_TABLE(t, i), the list of DE_TAPS coefficients for twist t and instance i (R7, R31). -/
def deemphTable (t : Nat) (i : Fin 3) : List Sample := (List.range deTaps).map (deemphAt t i)

/-- FIR_ARITH: coefficients and window to one sample; total, deterministic, uninterpreted (R123). -/
opaque firArith : List Sample → List Sample → Sample

/-- DEMOD_CORE.S, coded as a natural number: any countable state type has such a code (R124, log entry 7). -/
abbrev CoreState := Nat
/-- DEMOD_CORE.init (R124). -/
opaque coreInit : Fin 3 → CoreState
/-- DEMOD_CORE.step: one de-emphasised sample in, at most one line bit out (R124). -/
opaque coreStep : CoreState → Sample → CoreState × Option Bool
/-- DEMOD_CORE.locked: the carrier-detect boolean (R124). -/
opaque coreLocked : CoreState → Bool

/-- REG_BASE, the platform's base address of the register window (R68). -/
opaque regBase : Nat

end Sys2Proof.Config
end

