-- ==== Sys2Proof/Machine/Params.lean ====
section
/-!
DEFINITION. The parameters of spec/00_scope.md R7 that the spec gives a value, the status codes (spec/60_exceptions.md
R242), the metadata codes (spec/42_hdlc.md R152), and the constant tables of FX.25 (spec/43_fx25.md R214, R215).
-/

namespace Sys2Proof.Machine

/-- NCHUNK, chunks in the shared pool (R7). -/
def nChunk : Nat := 48
/-- MIN_RX_OCTETS, the spec's decision (R7; log entry 9). -/
def minRxOctets : Nat := 3
/-- OK_SENTINEL, the residue meaning "ok" (R7, R163). -/
def okSentinel : Half := 0x0F47
/-- FLAG, the HDLC flag octet (R7). -/
def flagOctet : Byte := 0x7E
/-- DEDUP_GAP: a repeated FCS is accepted when the elapsed blocks exceed this (R7, R127). -/
def dedupGap : Nat := 2
/-- GFPOLY, the field generator polynomial, 9 bits (R7, R200). -/
def gfPoly : BitVec 9 := 0x11D
/-- NN, multiplicative group order (R7). -/
def nn : Nat := 255
/-- A0, the index standing for "log of zero" (R7). -/
def a0 : Nat := 255
/-- FCR, first consecutive root of the generator (R7, R203). -/
def fcr : Nat := 1
/-- PRIM, primitive element step (R7, R203). -/
def prim : Nat := 1

/-- The status codes (R242). -/
inductive Status where
  | ok | none | empty | poolExhausted | illegal | badHandle | badOperand | badLength | notInit | badState | fatal
  deriving DecidableEq, Repr

/-- The 8-bit code of a status (R242). -/
def Status.code : Status → Byte
  | .ok => 0x00
  | .none => 0x01
  | .empty => 0x02
  | .poolExhausted => 0x03
  | .illegal => 0x10
  | .badHandle => 0x11
  | .badOperand => 0x12
  | .badLength => 0x13
  | .notInit => 0x14
  | .badState => 0x15
  | .fatal => 0x1F

/-- The named frame types (R152). -/
inductive FrameType where
  | data | txDelay | pPersist | slotTime | txTail | duplex | hardware | text | log
  deriving DecidableEq, Repr

/-- The type codes, in the source's list order (R152). -/
def FrameType.code : FrameType → Nibble
  | .data => 0
  | .txDelay => 1
  | .pPersist => 2
  | .slotTime => 3
  | .txTail => 4
  | .duplex => 5
  | .hardware => 6
  | .text => 7
  | .log => 8

/-- The named frame sources (R152); `none` is the clear nibble. -/
inductive FrameSource where
  | none | rf | serial | digi | loopbackReturn
  deriving DecidableEq, Repr

/-- The source nibbles (R152). -/
def FrameSource.code : FrameSource → Nibble
  | .none => 0
  | .rf => 1
  | .serial => 2
  | .digi => 4
  | .loopbackReturn => 8

/-- `meta = {source[3:0], type[3:0]}` (R152, R186). -/
def packMeta (src typ : Nibble) : Byte := src ++ typ

/-- The metadata of a received frame: source RF, type DATA (R152, R177). -/
def rxMeta : Byte := packMeta FrameSource.rf.code FrameType.data.code

/-- The parity lengths of the FX.25 layer (R7, NROOTS). -/
inductive Code where
  | p16 | p32 | p64
  deriving DecidableEq, Repr

/-- NROOTS of a code. -/
def Code.parity : Code → Nat
  | .p16 => 16
  | .p32 => 32
  | .p64 => 64

/-- One FX.25 code configuration, MODE[t] of R215: block size, data size, code. -/
structure Mode where
  block : Nat
  data : Nat
  code : Code
  deriving DecidableEq, Repr

/-- MODE[t] for t in 1..11 (R214, R215); `none` for the reserved 0 and the undefined 12-15. -/
def modeOf : Nat → Option Mode
  | 1 => some ⟨255, 239, .p16⟩
  | 2 => some ⟨144, 128, .p16⟩
  | 3 => some ⟨80, 64, .p16⟩
  | 4 => some ⟨48, 32, .p16⟩
  | 5 => some ⟨255, 223, .p32⟩
  | 6 => some ⟨160, 128, .p32⟩
  | 7 => some ⟨96, 64, .p32⟩
  | 8 => some ⟨64, 32, .p32⟩
  | 9 => some ⟨255, 191, .p64⟩
  | 10 => some ⟨192, 128, .p64⟩
  | 11 => some ⟨128, 64, .p64⟩
  | _ => none

/-- TAG, the correlation tag table by number, slot 0 (reserved) included (R214). Undefined slots are not in the list. -/
def tagTable : List Long :=
  [0x566ED2717946107E, 0xB74DB7DF8A532F3E, 0x26FF60A600CC8FDE, 0xC7DC0508F3D9B09E,
   0x8F056EB4369660EE, 0x6E260B1AC5835FAE, 0xFF94DC634F1CFF4E, 0x1EB7B9CDBC09C00E,
   0xDBF869BD2DBB1776, 0x3ADB0C13DEAE2836, 0xAB69DB6A543188D6, 0x4A4ABEC4A724B796]

/-- T[t] of a tag table. -/
def tagAt (tags : List Long) (t : Nat) : Long := tags.getD t 0

end Sys2Proof.Machine
end

