-- ==== Sys2Proof/Machine/State.lean ====
section
/-!
DEFINITION. The block's state as plain data, its reset value, and the reasons a step can stop (spec/10_state.md R20-R44).
-/

namespace Sys2Proof.Machine

/-- A demodulator instance, 0..2 (R7, N_INST). -/
abbrev InstId := Fin 3

/-- A Frame Pool handle, 0..47 (R7, NF). -/
abbrev Handle := Fin 48

/-- Who holds a pool slot (R34). -/
inductive Owner where
  /-- FREE: in the free list. -/
  | free
  /-- HOST: the host software. -/
  | host
  /-- RX(i): instance i's destuffer. -/
  | rx (i : InstId)
  deriving DecidableEq, Repr

/-- One Frame Pool slot (R34, R150). -/
structure Slot where
  owner : Owner
  octets : List Byte
  /-- The metadata byte: bits [7:4] source, bits [3:0] type (R152). -/
  metaByte : Byte
  fcs : Half
  crc : Half
  complete : Bool
  deriving DecidableEq, Repr

/-- The slot at reset: FREE and clear (R34). -/
def Slot.reset : Slot :=
  { owner := .free, octets := [], metaByte := 0, fcs := 0, crc := 0, complete := false }

/-- An instance's HDLC destuffer (R33). -/
structure Destuffer where
  /-- Consecutive 1 line bits seen, saturating at 7. -/
  ones : Nat
  /-- Bits in the partial octet; `none` is the spec's -1, hunting. -/
  olen : Option Nat
  /-- Partial octet, filled from bit 7 downward. -/
  oacc : Byte
  /-- Slot of the frame being received. -/
  rx : Option Handle
  deriving DecidableEq, Repr

/-- The destuffer at reset and after DEMOD_START (R33). -/
def Destuffer.reset : Destuffer := { ones := 0, olen := none, oacc := 0, rx := none }

/-- One action of the environment (R251, R256): the host's bus accesses, at any address and of any number of bytes (R68,
R76), the sample source's delivery (R250), and reset (R265). -/
inductive HostAction where
  /-- The host issues the command word `w` by the 32-bit write of it to CMD, wherever REG_BASE puts CMD (R21, R240): the
  same step as `write Config.regBase 4 w`, in a form that can be evaluated although REG_BASE is open (log entry 16). -/
  | command (w : Word)
  /-- The host writes `bytes` bytes at the bus address `address`; `data` is the word of a 32-bit write. -/
  | write (address bytes : Nat) (data : Word)
  /-- The host reads `bytes` bytes at the bus address `address`. -/
  | read (address bytes : Nat)
  /-- The sample source delivers a block. -/
  | deliver (block : List Sample)
  /-- Reset is asserted. -/
  | reset
  deriving DecidableEq, Repr

/-- The whole state. Fields carry the names of spec/10_state.md. -/
structure State where
  /-- STATUS (R22). -/
  status : Word
  /-- VALUE0 (R23). -/
  value0 : Word
  /-- VALUE1 (R23). -/
  value1 : Word
  /-- st.init_done (R25). -/
  initDone : Bool
  /-- st.fatal (R25). -/
  fatal : Bool
  /-- st.configured (R25). -/
  configured : Bool
  /-- st.running (R25). -/
  running : Bool
  /-- st.twist (R26). -/
  twist : Byte
  /-- st.block_counter (R28). -/
  blockCounter : Word
  /-- st.last_block_counter (R28). -/
  lastBlockCounter : Word
  /-- st.last_fcs (R28). -/
  lastFcs : Half
  /-- st.rx_drop_count (R29). -/
  rxDropCount : Word
  /-- st.sample_drop_count (R29). -/
  sampleDropCount : Word
  /-- st.pf_hist, newest first (R30). -/
  pfHist : List Sample
  /-- st.de_coef[i] (R31). -/
  deCoef : Vector (List Sample) 3
  /-- st.de_hist[i], newest first (R31). -/
  deHist : Vector (List Sample) 3
  /-- st.core[i] (R32). -/
  core : Vector Config.CoreState 3
  /-- st.dx[i] (R33). -/
  dx : Vector Destuffer 3
  /-- st.slot[h] (R34). -/
  slots : Vector Slot 48
  /-- st.free, top first (R35). -/
  free : List Handle
  /-- st.free_chunks (R36). -/
  freeChunks : Nat
  /-- st.sq, oldest first (R38). -/
  sampleQueue : List (List Sample)
  /-- st.alpha_to (R39). -/
  alphaTo : Vector Byte 256
  /-- st.index_of (R39). -/
  indexOf : Vector Byte 256
  /-- st.genpoly[16] (R40). -/
  genpoly16 : List Byte
  /-- st.genpoly[32] (R40). -/
  genpoly32 : List Byte
  /-- st.genpoly[64] (R40). -/
  genpoly64 : List Byte
  /-- The MODEL's own: the environment's actions still to come, oldest first (R256; log entry 1). -/
  inputs : List HostAction
  /-- The MODEL's own: the word the host's last register read returned (R79; log entry 5). -/
  busData : Word
  deriving DecidableEq, Repr

/-- Why the machine stops with a fault. No command raises one. -/
inductive Fault where
  /-- A bus access that touches no byte of the window, below REG_BASE or from REG_BASE + 16 on: nothing of the block is
  there (R68, R69). Raised by `HostAction.write` and `HostAction.read`; safe (DESIGN CHOICE, log entry 4). -/
  | outsideWindow (address : Nat)
  deriving DecidableEq, Repr

/-- Why the model gives an action no meaning. No command raises one. -/
inductive Refusal where
  /-- An instruction the model has no meaning for; no arm answers with it. Safe. -/
  | notModelled (mnemonic : String)
  /-- An access to the register window that is not 32 bits wide at a multiple of 4: "it has no meaning" (R76). Raised by
  `HostAction.write` and `HostAction.read`; safe (log entry 3). -/
  | unsupportedAccess (address bytes : Nat)
  /-- A delivery of a list that is not N samples: "cannot be delivered" (R250). Raised by `HostAction.deliver`; safe
  (log entry 10). -/
  | notASampleBlock (samples : Nat)
  deriving DecidableEq, Repr

/-- The machine right after reset (R44, R265). The fields the spec marks ⊥ hold the values log entry 8 names. -/
def State.reset : State where
  status := 0
  value0 := 0
  value1 := 0
  initDone := false
  fatal := false
  configured := false
  running := false
  twist := 0
  blockCounter := 0
  lastBlockCounter := 0
  lastFcs := 0
  rxDropCount := 0
  sampleDropCount := 0
  pfHist := List.replicate (Config.pfTaps - 1) 0
  deCoef := Vector.replicate 3 (List.replicate Config.deTaps 0)
  deHist := Vector.replicate 3 (List.replicate (Config.deTaps - 1) 0)
  core := Vector.replicate 3 0
  dx := Vector.replicate 3 Destuffer.reset
  slots := Vector.replicate 48 Slot.reset
  free := List.finRange 48
  freeChunks := 48
  sampleQueue := []
  alphaTo := Vector.replicate 256 0
  indexOf := Vector.replicate 256 0
  genpoly16 := List.replicate 17 0
  genpoly32 := List.replicate 33 0
  genpoly64 := List.replicate 65 0
  inputs := []
  busData := 0

end Sys2Proof.Machine
end

