-- ==== Sys2Proof/Machine/Ops.lean ====
section
/-!
DEFINITION. The named operations over the state: responses, the common checks of every command, the frame store and the
pools (spec/60_exceptions.md R240-R245; spec/42_hdlc.md R153-R158, R169).
-/

namespace Sys2Proof.Machine

/-- What every step answers. -/
abbrev Outcome := Host.Outcome State Fault Refusal

/-- `respond(c, v0, v1)` (R241). -/
def State.respond (s : State) (c : Status) (v0 v1 : Word) : State :=
  { s with status := Word.ofBits c.code, value0 := v0, value1 := v1 }

/-- `raise Status(c)` (R243): the block's one error mechanism (R247), in the place of taking an exception. STATUS is
the code, both result words are 0, and no other field changes. -/
def State.raised (s : State) (c : Status) : State := s.respond c 0 0

/-- How a command's own rule ends: by `respond`, in the state its writes left, or by `raise` (R241, R243). -/
inductive Reply where
  /-- `respond(c, v0, v1)` after the writes that lead from the command's state to `t`. -/
  | respond (c : Status) (v0 v1 : Word) (t : State)
  /-- `raise Status(c)`. -/
  | raised (c : Status)
  deriving DecidableEq, Repr

/-- The state a reply leaves; a raise discards whatever was computed (R243). -/
def Reply.finish (s : State) : Reply → State
  | .respond c v0 v1 t => t.respond c v0 v1
  | .raised c => s.raised c

/-- Which common checks a command is exempt from (R240). -/
inductive Gate where
  /-- An ordinary command. -/
  | afterInit
  /-- NOP and SYS_INIT: allowed before SYS_INIT. -/
  | always
  /-- STAT_READ: allowed before SYS_INIT and in the fatal state (R245). -/
  | evenFatal
  deriving DecidableEq, Repr

/-- The common checks a legal word meets before its rule, in R240's order: the fatal state, then the SYS_INIT gate. -/
def Gate.check (s : State) : Gate → Option Status
  | .afterInit => if s.fatal then some .fatal else if s.initDone then none else some .notInit
  | .always => if s.fatal then some .fatal else none
  | .evenFatal => none

/-- A legal command: its common checks, then its own rule (R240, R244). -/
def command (g : Gate) (rule : State → Reply) (s : State) : Outcome :=
  match g.check s with
  | some c => .next (s.raised c)
  | none => .next ((rule s).finish s)

/-! ## Plain field updates -/

/-- `st.slot[h] <- v`. -/
def State.setSlot (s : State) (h : Handle) (v : Slot) : State :=
  { s with slots := s.slots.set h v }

/-- `st.slot[h].owner <- o`. -/
def State.setOwner (s : State) (h : Handle) (o : Owner) : State :=
  s.setSlot h { s.slots[h] with owner := o }

/-- `st.dx[i] <- d`. -/
def State.setDx (s : State) (i : InstId) (d : Destuffer) : State :=
  { s with dx := s.dx.set i d }

/-- The octets of slot h. -/
def State.octets (s : State) (h : Handle) : List Byte := s.slots[h].octets

/-- The frame store's octet at (h, i), if the location exists (R61). -/
def State.readOctet (s : State) (h : Handle) (i : Nat) : Option Byte := (s.octets h)[i]?

/-! ## Chunks, clear, pools -/

/-- `chunks(L) = ceil(L / CHUNK_SIZE)` (R36, R154). -/
def chunks (len : Nat) : Nat := (len + Config.chunkSize - 1) / Config.chunkSize

/-- Clear(h) (R153). The owner stays. -/
def State.clear (s : State) (h : Handle) : State :=
  { s.setSlot h { Slot.reset with owner := s.slots[h].owner } with
    freeChunks := s.freeChunks + chunks (s.octets h).length }

/-- PoolAcquire(o) (R155). -/
def State.poolAcquire (s : State) (o : Owner) : Option (Handle × State) :=
  match s.free with
  | [] => none
  | h :: rest => some (h, { s with free := rest }.setOwner h o)

/-- PoolRelease(h) (R156). Its requirement, an owner other than FREE, holds wherever a rule calls it (log entry 13). -/
def State.poolRelease (s : State) (h : Handle) : State :=
  let t := (s.clear h).setOwner h .free
  { t with free := h :: s.free }

/-- FrameAppend(h, b) (R157); `none` is exhausted. -/
def State.frameAppend (s : State) (h : Handle) (b : Byte) : Option State :=
  let slot := s.slots[h]
  let t := s.setSlot h { slot with octets := slot.octets ++ [b] }
  if slot.octets.length % Config.chunkSize = 0 then
    if s.freeChunks = 0 then none else some { t with freeChunks := s.freeChunks - 1 }
  else some t

/-- FrameAppendN(h, bs): all octets or none (R158); `none` is exhausted. -/
def State.frameAppendN (s : State) (h : Handle) (bs : List Byte) : Option State :=
  let slot := s.slots[h]
  let need := chunks (slot.octets.length + bs.length) - chunks slot.octets.length
  if need > s.freeChunks then none
  else some { s.setSlot h { slot with octets := slot.octets ++ bs } with freeChunks := s.freeChunks - need }

/-! ## The sample queue -/

/-- QueuePop() (R64); `none` when the queue is empty. -/
def State.queuePop (s : State) : Option (List Sample × State) :=
  match s.sampleQueue with
  | [] => none
  | x :: rest => some (x, { s with sampleQueue := rest })

/-- Deliver(x), the sample source's step (R250), for a block x of N samples. -/
def State.deliver (s : State) (x : List Sample) : State :=
  if s.fatal || !s.running then s
  else if s.sampleQueue.length = Config.sbqDepth then { s with sampleDropCount := s.sampleDropCount + 1 }
  else { s with sampleQueue := s.sampleQueue ++ [x] }

/-! ## The GF table store -/

/-- `st.genpoly[n]` (R40). -/
def State.genpoly (s : State) : Code → List Byte
  | .p16 => s.genpoly16
  | .p32 => s.genpoly32
  | .p64 => s.genpoly64

end Sys2Proof.Machine
end

