-- ==== Sys2Proof/Machine/Flags.lean ====
section
/-!
DEFINITION. Every status view and flag the block computes: the bank's locked value (spec/41_demod_bank.md R140), the STATE
word (spec/10_state.md R27), the statistics (spec/40_system.md R112) and `ok` (spec/42_hdlc.md R163).
-/

namespace Sys2Proof.Machine

/-- The bank's locked value: configured and any instance locked (R140). -/
def State.locked (s : State) : Bool :=
  s.configured && (Config.coreLocked s.core[0] || Config.coreLocked s.core[1] || Config.coreLocked s.core[2])

/-- The STATE word (R27): INIT_DONE, CONFIGURED, RUNNING, FATAL and LOCKED in bits 0-4, TWIST in [15:8], 0 elsewhere. -/
def State.stateWord (s : State) : Word :=
  (0 : BitVec 16) ++ s.twist ++ (0 : BitVec 3) ++ BitVec.ofBool s.locked ++ BitVec.ofBool s.fatal ++
    BitVec.ofBool s.running ++ BitVec.ofBool s.configured ++ BitVec.ofBool s.initDone

/-- Ok(h) (R163): it reads the stored residue only (R190). -/
def State.frameOk (s : State) (h : Handle) : Bool := s.slots[h].crc = okSentinel

/-- The word STAT_READ returns, by selector (R112); `none` for selectors 9 and up. -/
def State.statistic (s : State) : Nat → Option Word
  | 0 => some s.stateWord
  | 1 => some s.blockCounter
  | 2 => some s.lastBlockCounter
  | 3 => some (Word.ofBits s.lastFcs)
  | 4 => some s.rxDropCount
  | 5 => some s.sampleDropCount
  | 6 => some (Word.ofNat s.free.length)
  | 7 => some (Word.ofNat s.freeChunks)
  | 8 => some (Word.ofNat s.sampleQueue.length)
  | _ => none

end Sys2Proof.Machine
end

