-- ==== Sys2Proof/Machine/Crc.lean ====
section
/-!
DEFINITION. Bit order, CRC-16/X.25, the residue, ParseFcs and AddFcs (spec/20_memory.md R71-R73; spec/42_hdlc.md
R159-R165).
-/

namespace Sys2Proof.Machine

/-- An octet as a bit stream, least significant bit first (R9, R71). -/
def octetBits (o : Byte) : List Bool := (List.range 8).map o.getLsbD

/-- An octet list as a bit stream (R9, R71). -/
def bitStream (os : List Byte) : List Bool := os.flatMap octetBits

/-- One bit through the CRC register, the reflected polynomial 0x8408 (R159). -/
def crcBit (reg : Half) (b : Bool) : Half :=
  if xor (reg.getLsbD 0) b then (reg >>> 1) ^^^ 0x8408 else reg >>> 1

/-- One octet through the CRC register, LSB first (R159). -/
def crcOctet (reg : Half) (o : Byte) : Half := (octetBits o).foldl crcBit reg

/-- CRC16(os) (R159): register from 0xFFFF, final XOR 0xFFFF. -/
def crc16 (os : List Byte) : Half := os.foldl crcOctet 0xFFFF ^^^ 0xFFFF

/-- RESIDUE(os) (R160): over all octets, the FCS octets included (conflict C1). -/
def residue (os : List Byte) : Half := crc16 os

/-- One bit, most significant first, through the source's accumulator: polynomial 0x1021 (R161). -/
def accBit (acc : Half) (b : Bool) : Half :=
  if xor (acc.getLsbD 15) b then (acc <<< 1) ^^^ 0x1021 else acc <<< 1

/-- One octet through the accumulator: `rev_8(o)` fed most significant bit first (R161). -/
def accOctet (acc : Half) (o : Byte) : Half :=
  ((List.range 8).map fun k => o.reverse.getLsbD (7 - k)).foldl accBit acc

/-- The source's realisation of CRC16 through a 32-bit accumulator: complement, shift left by 16, reverse all 32 bits,
keep the low 16 (R161). -/
def crc16Acc (os : List Byte) : Half :=
  let acc : Word := (os.foldl accOctet 0xFFFF).setWidth 32
  ((~~~acc <<< 16).reverse).setWidth 16

/-- `{os[L-1], os[L-2]}`, the FCS in the last two octets, low octet first (R72, R164). -/
def receivedFcs (os : List Byte) : Half := os.getD (os.length - 1) 0 ++ os.getD (os.length - 2) 0

/-- `[f[7:0], f[15:8]]`, an FCS as its two octets (R72, R165). -/
def fcsOctets (f : Half) : List Byte := [f.extractLsb 7 0, f.extractLsb 15 8]

/-- ParseFcs(h) (R164). -/
def State.parseFcs (s : State) (h : Handle) : State :=
  let os := s.octets h
  s.setSlot h { s.slots[h] with fcs := receivedFcs os, crc := residue os, complete := true }

/-- AddFcs(h) (R165); `none` is exhausted. -/
def State.addFcs (s : State) (h : Handle) : Option State :=
  let f := crc16 (s.octets h)
  (s.frameAppendN h (fcsOctets f)).map fun t =>
    t.setSlot h { t.slots[h] with fcs := f, crc := okSentinel, complete := true }

end Sys2Proof.Machine
end

