-- ==== Sys2Proof/Machine/Destuff.lean ====
section
/-!
DEFINITION. The HDLC destuffer of an instance (spec/42_hdlc.md R175-R178).
-/

namespace Sys2Proof.Machine

/-- Abandon on exhaustion: count the frame and hunt (R176). -/
def State.dropRx (s : State) (i : InstId) : State :=
  { s.setDx i { s.dx[i] with olen := none } with rxDropCount := s.rxDropCount + 1 }

/-- Append an assembled octet to the RX frame, or abandon the frame (R176). -/
def State.storeRxOctet (s : State) (i : InstId) (h : Handle) (o : Byte) : State :=
  match s.frameAppend h o with
  | some t => t
  | none =>
    let t := s.poolRelease h
    (t.setDx i { t.dx[i] with rx := none }).dropRx i

/-- An octet is complete: acquire the RX frame if there is none, then append (R176). -/
def State.rxOctet (s : State) (i : InstId) (o : Byte) : State :=
  match s.dx[i].rx with
  | some h => s.storeRxOctet i h o
  | none =>
    match s.poolAcquire (.rx i) with
    | none => s.dropRx i
    | some (h, t) => (t.setDx i { t.dx[i] with rx := some h }).storeRxOctet i h o

/-- DataBit(i, v) (R176). -/
def State.dataBit (s : State) (i : InstId) (v : Bool) : State :=
  match s.dx[i].olen with
  | none => s
  | some o =>
    let acc := (s.dx[i].oacc >>> 1) ||| (if v then 0x80 else 0)
    if o + 1 = 8 then (s.setDx i { s.dx[i] with oacc := acc, olen := some 0 }).rxOctet i acc
    else s.setDx i { s.dx[i] with oacc := acc, olen := some (o + 1) }

/-- What the flag does with the frame being received, if any (R177): hand it on when it is octet-aligned, long enough and
its residue is the sentinel, else release it. -/
def State.closeRx (s : State) (i : InstId) : Option Handle × State :=
  match s.dx[i].rx with
  | none => (none, s)
  | some h =>
    if s.dx[i].olen = some 7 ∧ minRxOctets ≤ (s.octets h).length then
      let t := s.parseFcs h
      if t.frameOk h then (some h, t.setSlot h { t.slots[h] with metaByte := rxMeta })
      else (none, t.poolRelease h)
    else (none, s.poolRelease h)

/-- CloseFrame(i) (R177): a flag ends hunting and empties the partial octet. -/
def State.closeFrame (s : State) (i : InstId) : Option Handle × State :=
  let (res, t) := s.closeRx i
  (res, t.setDx i { t.dx[i] with olen := some 0, oacc := 0, rx := none })

/-- Abort(i) (R178). -/
def State.abort (s : State) (i : InstId) : State :=
  let t := match s.dx[i].rx with
    | some h => s.poolRelease h
    | none => s
  t.setDx i { t.dx[i] with olen := none, rx := none }

/-- DestuffBit(i, b) (R175): one line bit; the answer is the frame a flag closed, if it passed its check. -/
def State.destuffBit (s : State) (i : InstId) (b : Bool) : Option Handle × State :=
  let d := s.dx[i]
  if b then
    let ones := min (d.ones + 1) 7
    let t := s.setDx i { d with ones := ones }
    if ones = 7 then (none, t.abort i) else (none, t.dataBit i true)
  else
    let t := s.setDx i { d with ones := 0 }
    if d.ones = 6 then t.closeFrame i
    else if d.ones = 5 then (none, t)
    else (none, t.dataBit i false)

/-- A bit stream through one destuffer: the frames it returned, in order, each with the position of its bit. -/
def State.destuffBits (s : State) (i : InstId) (bs : List Bool) : List (Option Handle) × State :=
  match bs with
  | [] => ([], s)
  | b :: rest =>
    let (r, t) := s.destuffBit i b
    let (rs, u) := t.destuffBits i rest
    (r :: rs, u)

end Sys2Proof.Machine
end

