-- ==== Sys2Proof/Machine/Bank.lean ====
section
/-!
DEFINITION. The demodulator bank: FIR stages, one instance's run, arbitration, one block (spec/41_demod_bank.md R120-R132),
and the bank part of DEMOD_START (R141).
-/

namespace Sys2Proof.Machine

/-- Prefilter over a block, sample by sample (R121). -/
def State.prefilter (s : State) (x : List Sample) : List Sample × State :=
  match x with
  | [] => ([], s)
  | v :: rest =>
    let window := v :: s.pfHist
    let f := Config.firArith Config.pfCoef window
    let (fs, t) := { s with pfHist := window.take (Config.pfTaps - 1) }.prefilter rest
    (f :: fs, t)

/-- Deemph(i, v) (R122). -/
def State.deemph (s : State) (i : InstId) (v : Sample) : Sample × State :=
  let window := v :: s.deHist[i]
  (Config.firArith s.deCoef[i] window, { s with deHist := s.deHist.set i (window.take (Config.deTaps - 1)) })

/-- One filtered sample through instance i: de-emphasis, core, destuffer (R125). -/
def State.instanceSample (s : State) (i : InstId) (v : Sample) : Option Handle × State :=
  let (d, t) := s.deemph i v
  let (c, ob) := Config.coreStep t.core[i] d
  let u := { t with core := t.core.set i c }
  match ob with
  | none => (none, u)
  | some b => u.destuffBit i b

/-- RunInstance(i, f) (R125): the candidates in completion order. -/
def State.runInstance (s : State) (i : InstId) (f : List Sample) : List Handle × State :=
  match f with
  | [] => ([], s)
  | v :: rest =>
    let (r, t) := s.instanceSample i v
    let (cands, u) := t.runInstance i rest
    (r.toList ++ cands, u)

/-- accept(h) (R127): a new FCS, or more than DEDUP_GAP blocks since the last acceptance, counted mod 2^32. -/
def State.accepts (s : State) (h : Handle) : Bool :=
  s.slots[h].fcs ≠ s.lastFcs || (s.blockCounter - s.lastBlockCounter).toNat > dedupGap

/-- Arbitrate(h, result) (R129-R131). -/
def State.arbitrate (s : State) (h : Handle) (result : Option Handle) : Option Handle × State :=
  if s.accepts h then
    let t := match result with
      | some r => s.poolRelease r
      | none => s
    (some h, { t with lastFcs := t.slots[h].fcs, lastBlockCounter := t.blockCounter })
  else (result, s.poolRelease h)

/-- The candidates of one instance, arbitrated in order (R132). -/
def State.arbitrateAll (s : State) (cands : List Handle) (result : Option Handle) : Option Handle × State :=
  match cands with
  | [] => (result, s)
  | h :: rest =>
    let (res, t) := s.arbitrate h result
    t.arbitrateAll rest res

/-- The instances in order, each arbitrated right after its run (R120, R132). -/
def State.runInstances (s : State) (is : List InstId) (f : List Sample) (result : Option Handle) :
    Option Handle × State :=
  match is with
  | [] => (result, s)
  | i :: rest =>
    let (cands, t) := s.runInstance i f
    let (res, u) := t.arbitrateAll cands result
    u.runInstances rest f res

/-- ProcessBlock(x) (R132). -/
def State.processBlock (s : State) (x : List Sample) : Option Handle × State :=
  let (f, t) := s.prefilter x
  let (result, u) := t.runInstances [0, 1, 2] f none
  let v := { u with blockCounter := u.blockCounter + 1 }
  match result with
  | some h => (some h, v.setOwner h .host)
  | none => (none, v)

/-- DEMOD_START's loop body for instance i (R141). -/
def State.restartInstance (tw : Nat) (s : State) (i : InstId) : State :=
  let t := match s.dx[i].rx with
    | some h => s.poolRelease h
    | none => s
  { t.setDx i Destuffer.reset with
    deCoef := t.deCoef.set i (Config.deemphTable tw i)
    deHist := t.deHist.set i (List.replicate (Config.deTaps - 1) 0)
    core := t.core.set i (Config.coreInit i) }

/-- DEMOD_START's writes (R141). -/
def State.startBank (s : State) (tw : Nat) : State :=
  let t := [0, 1, 2].foldl (State.restartInstance tw) s
  { t with
    pfHist := List.replicate (Config.pfTaps - 1) 0
    sampleQueue := []
    blockCounter := 0
    lastBlockCounter := 0
    lastFcs := 0
    twist := BitVec.ofNat 8 tw
    configured := true
    running := true }

end Sys2Proof.Machine
end

