-- ==== Sys2Proof/Machine/Operands.lean ====
section
/-!
DEFINITION. The operand forms: the legal range of each field, checked by the command (spec/30_encoding.md R87, R91), each
as a lookup that answers nothing outside it.
-/

namespace Sys2Proof.Machine

/-- HostHandle(H) (R169): a handle below 48 whose slot the host owns. -/
def hostHandle (h : Nat) (s : State) : Option Handle :=
  if hlt : h < 48 then if s.slots[h].owner = .host then some ⟨h, hlt⟩ else none else none

/-- A command rule on a host frame: BAD_HANDLE where the handle check fails (R169). -/
def onFrame (h : Nat) (rule : Handle → State → Reply) (s : State) : Reply :=
  match hostHandle h s with
  | some f => rule f s
  | none => .raised .badHandle

/-- TW below TWIST_COUNT (R87, R141). -/
def twistOperand (tw : Nat) : Bool := tw < Config.twistCount

/-- INST 0..2 (R87, R145). -/
def instOperand (inst : Nat) : Option InstId := if h : inst < 3 then some ⟨inst, h⟩ else none

/-- SEL of format G: 0, 1, 2 select 16, 32, 64 parity symbols (R87, R226). -/
def codeOperand : Nat → Option Code
  | 0 => some .p16
  | 1 => some .p32
  | 2 => some .p64
  | _ => none

/-- MODE 1..11 (R87, R222, R223). -/
def modeOperand (mode : Nat) : Option Mode := modeOf mode

end Sys2Proof.Machine
end

