-- ==== Sys2Proof/Machine/Demod.lean ====
section
/-!
DEFINITION. The bank commands (spec/41_demod_bank.md R141-R145).
-/

namespace Sys2Proof.Machine

/-- DEMOD_START tw (R141). -/
def execDemodStart (tw : Nat) (s : State) : Outcome :=
  command .afterInit (fun t =>
    if twistOperand tw then .respond .ok 0 0 (t.startBank tw) else .raised .badOperand) s

/-- DEMOD_STOP (R142). -/
def execDemodStop (s : State) : Outcome :=
  command .afterInit (fun t => .respond .ok 0 0 { t with running := false }) s

/-- DEMOD_PROCESS's rule (R143). -/
def processRule (s : State) : Reply :=
  if !s.configured then .raised .badState
  else match s.queuePop with
    | none => .raised .empty
    | some (x, t) =>
      match t.processBlock x with
      | (some h, u) => .respond .ok (Word.ofNat h.val) (Word.ofBool u.locked) u
      | (none, u) => .respond .none 0 (Word.ofBool u.locked) u

/-- DEMOD_PROCESS (R143). -/
def execDemodProcess (s : State) : Outcome := command .afterInit processRule s

/-- DEMOD_LOCKED (R144). -/
def execDemodLocked (s : State) : Outcome :=
  command .afterInit (fun t => .respond .ok (Word.ofBool t.locked) 0 t) s

/-- HDLC_RX_BIT's rule for a legal instance (R145): no arbitration, counters untouched. -/
def rxBitRule (i : InstId) (bit : Bool) (s : State) : Reply :=
  match s.destuffBit i bit with
  | (some h, t) => .respond .ok (Word.ofNat h.val) 0 (t.setOwner h .host)
  | (none, t) => .respond .none 0 0 t

/-- HDLC_RX_BIT inst, bit (R145). -/
def execHdlcRxBit (inst : Nat) (bit : Bool) (s : State) : Outcome :=
  command .afterInit (fun t => match instOperand inst with
    | some i => rxBitRule i bit t
    | none => .raised .badOperand) s

end Sys2Proof.Machine
end

