-- ==== Sys2Proof/Machine/Stuff.lean ====
section
/-!
DEFINITION. Bit stuffing with flags (spec/42_hdlc.md R166, R167).
-/

namespace Sys2Proof.Machine

/-- The bit packer of R166: finished octets, the partial octet and its bit count. -/
structure Packer where
  out : List Byte
  acc : Byte
  n : Nat
  deriving DecidableEq, Repr

/-- `put(b)` (R166): LSB first, flushed every 8 bits. -/
def Packer.put (p : Packer) (b : Bool) : Packer :=
  let acc := p.acc ||| ((if b then 1 else 0) <<< p.n)
  if p.n + 1 = 8 then { out := p.out ++ [acc], acc := 0, n := 0 } else { p with acc := acc, n := p.n + 1 }

/-- Several bits through the packer, in order. -/
def Packer.putAll (p : Packer) (bs : List Bool) : Packer := bs.foldl Packer.put p

/-- The payload's bits with a 0 inserted after every fifth consecutive 1, `ones` of them seen so far (R166). -/
def stuffBits : Nat → List Bool → List Bool
  | _, [] => []
  | _, false :: bs => false :: stuffBits 0 bs
  | ones, true :: bs =>
    if ones + 1 = 5 then true :: false :: stuffBits 0 bs else true :: stuffBits (ones + 1) bs

/-- The pad: leading bits of the flag while the packer is off an octet boundary (R166, R167). -/
def Packer.pad (p : Packer) : Packer := p.putAll ((octetBits flagOctet).take ((8 - p.n) % 8))

/-- Stuff(p) (R166): the opening flag as an octet, the stuffed payload bits, the closing flag through the packer but never
stuffed (R167, conflict C5), the pad. -/
def stuff (p : List Byte) : List Byte :=
  let start : Packer := { out := [flagOctet], acc := 0, n := 0 }
  ((start.putAll (stuffBits 0 (bitStream p))).putAll (octetBits flagOctet)).pad.out

end Sys2Proof.Machine
end

