-- ==== Sys2Proof/Machine/Frame.lean ====
section
/-!
DEFINITION. The frame commands and HDLC_STUFF (spec/42_hdlc.md R180-R194).
-/

namespace Sys2Proof.Machine

/-- FRAME_ACQUIRE (R180). -/
def execFrameAcquire (s : State) : Outcome :=
  command .afterInit (fun t => match t.poolAcquire .host with
    | none => .raised .poolExhausted
    | some (h, u) => .respond .ok (Word.ofNat h.val) 0 u) s

/-- FRAME_RELEASE h (R181). -/
def execFrameRelease (h : Nat) (s : State) : Outcome :=
  command .afterInit (onFrame h fun f t => .respond .ok 0 0 (t.poolRelease f)) s

/-- FRAME_CLEAR h (R182). -/
def execFrameClear (h : Nat) (s : State) : Outcome :=
  command .afterInit (onFrame h fun f t => .respond .ok 0 0 (t.clear f)) s

/-- FRAME_APPEND h, b (R183). -/
def execFrameAppend (h : Nat) (b : Byte) (s : State) : Outcome :=
  command .afterInit (onFrame h fun f t => match t.frameAppend f b with
    | none => .raised .poolExhausted
    | some u => .respond .ok (Word.ofNat (u.octets f).length) 0 u) s

/-- FRAME_READ h, idx (R184). -/
def execFrameRead (h : Nat) (idx : Nat) (s : State) : Outcome :=
  command .afterInit (onFrame h fun f t => match t.readOctet f idx with
    | none => .raised .badOperand
    | some o => .respond .ok (Word.ofBits o) 0 t) s

/-- FRAME_SIZE h (R185). -/
def execFrameSize (h : Nat) (s : State) : Outcome :=
  command .afterInit (onFrame h fun f t => .respond .ok (Word.ofNat (t.octets f).length) 0 t) s

/-- FRAME_SET_META h, src, type (R186). -/
def execFrameSetMeta (h : Nat) (src typ : Nibble) (s : State) : Outcome :=
  command .afterInit (onFrame h fun f t =>
    .respond .ok 0 0 (t.setSlot f { t.slots[f] with metaByte := packMeta src typ })) s

/-- FRAME_GET_META h (R187). -/
def execFrameGetMeta (h : Nat) (s : State) : Outcome :=
  command .afterInit (onFrame h fun f t => .respond .ok (Word.ofBits t.slots[f].metaByte) 0 t) s

/-- FRAME_PARSE_FCS h (R188). -/
def execFrameParseFcs (h : Nat) (s : State) : Outcome :=
  command .afterInit (onFrame h fun f t =>
    if (t.octets f).length < 2 then .raised .badLength
    else
      let u := t.parseFcs f
      .respond .ok (Word.ofBits u.slots[f].crc) (Word.ofBits u.slots[f].fcs) u) s

/-- FRAME_ADD_FCS h (R189). -/
def execFrameAddFcs (h : Nat) (s : State) : Outcome :=
  command .afterInit (onFrame h fun f t => match t.addFcs f with
    | none => .raised .poolExhausted
    | some u => .respond .ok (Word.ofBits u.slots[f].fcs) (Word.ofNat (u.octets f).length) u) s

/-- FRAME_OK h (R190). -/
def execFrameOk (h : Nat) (s : State) : Outcome :=
  command .afterInit (onFrame h fun f t => .respond .ok (Word.ofBool (t.frameOk f)) 0 t) s

/-- FRAME_COMPLETE h (R191). -/
def execFrameComplete (h : Nat) (s : State) : Outcome :=
  command .afterInit (onFrame h fun f t => .respond .ok (Word.ofBool t.slots[f].complete) 0 t) s

/-- FRAME_GET_FCS h (R192). -/
def execFrameGetFcs (h : Nat) (s : State) : Outcome :=
  command .afterInit (onFrame h fun f t => .respond .ok (Word.ofBits t.slots[f].fcs) 0 t) s

/-- FRAME_GET_CRC h (R193). -/
def execFrameGetCrc (h : Nat) (s : State) : Outcome :=
  command .afterInit (onFrame h fun f t => .respond .ok (Word.ofBits t.slots[f].crc) 0 t) s

/-- HDLC_STUFF's rule on host frame f (R194): the stuffed octets in a newly acquired host frame, metadata copied; all of
it or nothing. -/
def stuffRule (f : Handle) (s : State) : Reply :=
  let out := stuff (s.octets f)
  if chunks out.length > s.freeChunks then .raised .poolExhausted
  else match s.poolAcquire .host with
    | none => .raised .poolExhausted
    | some (h2, t) =>
      let u := t.setSlot h2 { t.slots[h2] with octets := out, metaByte := s.slots[f].metaByte }
      .respond .ok (Word.ofNat h2.val) (Word.ofNat out.length)
        { u with freeChunks := s.freeChunks - chunks out.length }

/-- HDLC_STUFF h (R194). -/
def execHdlcStuff (h : Nat) (s : State) : Outcome := command .afterInit (onFrame h stuffRule) s

end Sys2Proof.Machine
end

