-- ==== Sys2Proof/Machine/Galois.lean ====
section
/-!
DEFINITION. GF(2^8): the tables SYS_INIT builds, field arithmetic through them, generator polynomials and the systematic
Reed-Solomon encoder (spec/43_fx25.md R200-R206).
-/

namespace Sys2Proof.Machine

/-- The antilog and log tables (R39, R65). -/
structure GfTables where
  alphaTo : Vector Byte 256
  indexOf : Vector Byte 256
  deriving DecidableEq, Repr

/-- The tables the state holds. -/
def State.gf (s : State) : GfTables := { alphaTo := s.alphaTo, indexOf := s.indexOf }

/-- The tables under construction and the running value `sr` of R200. -/
structure GfBuild where
  tables : GfTables
  sr : Byte
  early : Bool
  deriving DecidableEq, Repr

/-- Doubling and reducing modulo the field polynomial p (R200). -/
def gfDouble (p : BitVec 9) (sr : Byte) : Byte :=
  let d : BitVec 9 := sr.setWidth 9 <<< 1
  (if d.getLsbD 8 then d ^^^ p else d).setWidth 8

/-- The first entries of R200: `ix[0] <- A0`, `a[A0] <- 0`, `sr <- 1`. -/
def GfBuild.start : GfBuild where
  tables := { alphaTo := (Vector.replicate 256 0).set 255 0
              indexOf := (Vector.replicate 256 0).set 0 (BitVec.ofNat 8 a0) }
  sr := 1
  early := false

/-- One pass of R200's loop, for i in 0..254. -/
def GfBuild.step (p : BitVec 9) (g : GfBuild) (i : Fin 255) : GfBuild :=
  let sr := gfDouble p g.sr
  { tables := { alphaTo := g.tables.alphaTo.set i.val g.sr
                indexOf := g.tables.indexOf.set g.sr.toNat (BitVec.ofNat 8 i.val) }
    sr := sr
    early := g.early || (sr == 1 && i.val < nn - 1) }

/-- BuildGF(p) (R200). -/
def buildGf (p : BitVec 9) : GfBuild := (List.finRange 255).foldl (GfBuild.step p) GfBuild.start

/-- `ok` of R200 and R201: the running value is back at 1, and was not earlier. -/
def GfBuild.ok (g : GfBuild) : Bool := g.sr == 1 && !g.early

/-- `alpha_to[e mod 255]` (R202). -/
def GfTables.exp (g : GfTables) (e : Nat) : Byte :=
  g.alphaTo[e % nn]'(by have := Nat.mod_lt e (show 0 < nn by decide); simp only [nn] at *; omega)

/-- `index_of[x]` as a number (R202). -/
def GfTables.log (g : GfTables) (x : Byte) : Nat := g.indexOf[x.toNat].toNat

/-- Field multiplication (R202). -/
def GfTables.mul (g : GfTables) (x y : Byte) : Byte :=
  if x = 0 ∨ y = 0 then 0 else g.exp (g.log x + g.log y)

/-- One factor of R203: `poly` times `(x - α^root)`, coefficients from x^0 up. The new top coefficient is 1; entry 0 is
multiplied without a zero test, as the rule has it. -/
def genFactor (g : GfTables) (root : Nat) (poly : List Byte) : List Byte :=
  g.exp (g.log (poly.headD 0) + root) ::
    (List.zipWith (fun prev cur => if cur ≠ 0 then prev ^^^ g.exp (g.log cur + root) else prev) poly poly.tail ++ [1])

/-- BuildGen(a, ix, n) (R203): roots FCR × PRIM, stepping by PRIM. -/
def buildGen (g : GfTables) (n : Nat) : List Byte :=
  (List.range n).foldl (fun poly i => genFactor g (fcr * prim + i * prim) poly) [1]

/-- BuildGenLog(a, ix, n) (R204): the coefficients in log form. -/
def buildGenLog (g : GfTables) (n : Nat) : List Byte := (buildGen g n).map fun c => g.indexOf[c.toNat]

/-- One data symbol through the encoder register `bb` of n cells, with generator G in log form (R206): cell j pairs with
G[n-j] while the register shifts left by one, the tail takes G[0], and a zero symbol (log A0) only shifts. -/
def rsStep (g : GfTables) (n : Nat) (gen : List Byte) (bb : List Byte) (d : Byte) : List Byte :=
  let fb := g.log (d ^^^ bb.headD 0)
  if fb ≠ a0 then
    List.zipWith (fun cell c => cell ^^^ g.exp (fb + c.toNat)) bb.tail ((gen.take n).tail.reverse) ++
      [g.exp (fb + (gen.headD 0).toNat)]
  else bb.tail ++ [0]

/-- RsEncode(n, data) (R206): the parity in transmission order. -/
def rsParity (g : GfTables) (n : Nat) (gen : List Byte) (data : List Byte) : List Byte :=
  data.foldl (rsStep g n gen) (List.replicate n 0)

end Sys2Proof.Machine
end

