-- ==== Sys2Proof/Machine/Tags.lean ====
section
/-!
DEFINITION. FX.25 mode selection, the tag self-test, and the octets of a transmitted block (spec/43_fx25.md R216-R218).
-/

namespace Sys2Proof.Machine

/-- PickMode(L) (R216): the tag number of the first listed configuration that holds L octets (conflict C4). -/
def pickMode (len : Nat) : Option Nat :=
  if len ≤ 32 then some 4
  else if len ≤ 64 then some 3
  else if len ≤ 128 then some 6
  else if len ≤ 191 then some 9
  else if len ≤ 223 then some 5
  else if len ≤ 239 then some 1
  else none

/-- popcount (R8). -/
def popcount {w : Nat} (v : BitVec w) : Nat := ((List.range w).filter v.getLsbD).length

/-- The defined tag numbers 1..11 (R7, N_TAGS). -/
def tagNumbers : List Nat := (List.range 11).map (· + 1)

/-- TagSelfTest(T) (R217): every two distinct defined tags differ in exactly 32 bits. -/
def tagSelfTest (tags : List Long) : Bool :=
  tagNumbers.all fun t => tagNumbers.all fun u => t == u || popcount (tagAt tags t ^^^ tagAt tags u) == 32

/-- The 8 octets of a tag in transmission order, the low-order octet first (R73, R218). -/
def tagOctets (tag : Long) : List Byte := (List.range 8).map fun j => tag.extractLsb' (8 * j) 8

/-- The transmitted FX.25 block (R218): tag, data, parity. The host composes it; no command does. -/
def fx25Block (tag : Long) (data parity : List Byte) : List Byte := tagOctets tag ++ data ++ parity

end Sys2Proof.Machine
end

