-- ==== Sys2Proof/Machine/System.lean ====
section
/-!
DEFINITION. The system commands NOP, SYS_INIT and STAT_READ (spec/40_system.md R110-R112).
-/

namespace Sys2Proof.Machine

/-- NOP (R110). -/
def execNop (s : State) : Outcome := command .always (fun t => .respond .ok 0 0 t) s

/-- The fatal entry (R243, R245): `st.fatal <- true; respond(FATAL, cause, 0)`. -/
def fatalEntry (cause : Word) (s : State) : Reply := .respond .fatal cause 0 { s with fatal := true }

/-- SYS_INIT's rule for a field polynomial p and a tag table (R111). The spec's constants pass both checks; the FATAL
paths are for a model that varies them (R111, corner cases). -/
def sysInitRule (p : BitVec 9) (tags : List Long) (s : State) : Reply :=
  if s.initDone then .respond .ok 0 0 s
  else
    let b := buildGf p
    if !b.ok then fatalEntry 1 s
    else if !tagSelfTest tags then fatalEntry 2 s
    else .respond .ok 0 0 { s with
      alphaTo := b.tables.alphaTo
      indexOf := b.tables.indexOf
      genpoly16 := buildGenLog b.tables 16
      genpoly32 := buildGenLog b.tables 32
      genpoly64 := buildGenLog b.tables 64
      initDone := true }

/-- SYS_INIT (R111). -/
def execSysInit (s : State) : Outcome := command .always (sysInitRule gfPoly tagTable) s

/-- STAT_READ sel (R112). -/
def execStatRead (sel : Nat) (s : State) : Outcome :=
  command .evenFatal (fun t => match t.statistic sel with
    | some v => .respond .ok v 0 t
    | none => .raised .badOperand) s

end Sys2Proof.Machine
end

