-- ==== Sys2Proof/Machine/Fx25.lean ====
section
/-!
DEFINITION. The FX.25 commands (spec/43_fx25.md R220-R226).
-/

namespace Sys2Proof.Machine

/-- FX25_PICK_MODE's result word: `block << 16 | k << 8 | m` (R220). -/
def modeWord (m : Nat) (mode : Mode) : Word := Word.ofNat mode.block <<< 16 ||| Word.ofNat mode.data <<< 8 ||| Word.ofNat m

/-- FX25_PICK_MODE len (R220). -/
def execFx25PickMode (len : Nat) (s : State) : Outcome :=
  command .afterInit (fun t => match pickMode len with
    | none => .raised .none
    | some m => match modeOf m with
      | none => .raised .none
      | some mode => .respond .ok (modeWord m mode) 0 t) s

/-- FX25_TAG mode (R222). -/
def execFx25Tag (mode : Nat) (s : State) : Outcome :=
  command .afterInit (fun t => match modeOperand mode with
    | none => .raised .badOperand
    | some _ =>
      .respond .ok ((tagAt tagTable mode).extractLsb 31 0) ((tagAt tagTable mode).extractLsb 63 32) t) s

/-- FX25_TAG_SELFTEST's rule for a tag table (R221): 55 is the number of pairs checked. -/
def tagSelftestRule (tags : List Long) (s : State) : Reply :=
  if !tagSelfTest tags then fatalEntry 2 s else .respond .ok 55 0 s

/-- FX25_TAG_SELFTEST (R221). -/
def execFx25TagSelftest (s : State) : Outcome := command .afterInit (tagSelftestRule tagTable) s

/-- The parity RS_ENCODE appends: RsEncode with the state's tables and generator (R206, R223). -/
def State.parityOf (s : State) (c : Code) (data : List Byte) : List Byte :=
  rsParity s.gf c.parity (s.genpoly c) data

/-- RS_ENCODE's rule on host frame f (R223). -/
def encodeRule (mode : Nat) (f : Handle) (s : State) : Reply :=
  match modeOperand mode with
  | none => .raised .badOperand
  | some m =>
    if (s.octets f).length ≠ m.data then .raised .badLength
    else match s.frameAppendN f (s.parityOf m.code (s.octets f)) with
      | none => .raised .poolExhausted
      | some t => .respond .ok (Word.ofNat (t.octets f).length) 0 t

/-- RS_ENCODE mode, h (R223). -/
def execRsEncode (mode : Nat) (h : Nat) (s : State) : Outcome := command .afterInit (onFrame h (encodeRule mode)) s

/-- GF_ALPHA x (R224). -/
def execGfAlpha (x : Byte) (s : State) : Outcome :=
  command .afterInit (fun t => .respond .ok (Word.ofBits t.alphaTo[x.toNat]) 0 t) s

/-- GF_LOG x (R225). -/
def execGfLog (x : Byte) (s : State) : Outcome :=
  command .afterInit (fun t => .respond .ok (Word.ofBits t.indexOf[x.toNat]) 0 t) s

/-- RS_GENPOLY's rule for a code (R226): the log form and the natural coefficient. -/
def genpolyRule (c : Code) (idx : Nat) (s : State) : Reply :=
  if idx > c.parity then .raised .badOperand
  else
    let l := (s.genpoly c).getD idx 0
    .respond .ok (Word.ofBits l) (Word.ofBits s.alphaTo[l.toNat]) s

/-- RS_GENPOLY sel, idx (R226). -/
def execRsGenpoly (sel idx : Nat) (s : State) : Outcome :=
  command .afterInit (fun t => match codeOperand sel with
    | none => .raised .badOperand
    | some c => genpolyRule c idx t) s

end Sys2Proof.Machine
end

