-- ==== Sys2Proof/Machine/Dispatch.lean ====
section
/-!
DEFINITION. One arm per command of spec/30_encoding.md R88, each a direct call of its meaning.
-/

namespace Sys2Proof.Machine

def exec (i : Instr) (s : State) : Host.Outcome State Fault Refusal :=
  match i with
  | .nop => Sys2Proof.Machine.execNop s
  | .sysInit => Sys2Proof.Machine.execSysInit s
  | .statRead sel => Sys2Proof.Machine.execStatRead sel s
  | .demodStart tw => Sys2Proof.Machine.execDemodStart tw s
  | .demodStop => Sys2Proof.Machine.execDemodStop s
  | .demodProcess => Sys2Proof.Machine.execDemodProcess s
  | .demodLocked => Sys2Proof.Machine.execDemodLocked s
  | .hdlcRxBit inst bit => Sys2Proof.Machine.execHdlcRxBit inst bit s
  | .frameAcquire => Sys2Proof.Machine.execFrameAcquire s
  | .frameRelease h => Sys2Proof.Machine.execFrameRelease h s
  | .frameClear h => Sys2Proof.Machine.execFrameClear h s
  | .frameAppend h b => Sys2Proof.Machine.execFrameAppend h b s
  | .frameRead h idx => Sys2Proof.Machine.execFrameRead h idx s
  | .frameSize h => Sys2Proof.Machine.execFrameSize h s
  | .frameSetMeta h src typ => Sys2Proof.Machine.execFrameSetMeta h src typ s
  | .frameGetMeta h => Sys2Proof.Machine.execFrameGetMeta h s
  | .frameParseFcs h => Sys2Proof.Machine.execFrameParseFcs h s
  | .frameAddFcs h => Sys2Proof.Machine.execFrameAddFcs h s
  | .frameOk h => Sys2Proof.Machine.execFrameOk h s
  | .frameComplete h => Sys2Proof.Machine.execFrameComplete h s
  | .frameGetFcs h => Sys2Proof.Machine.execFrameGetFcs h s
  | .frameGetCrc h => Sys2Proof.Machine.execFrameGetCrc h s
  | .hdlcStuff h => Sys2Proof.Machine.execHdlcStuff h s
  | .fx25PickMode len => Sys2Proof.Machine.execFx25PickMode len s
  | .fx25Tag mode => Sys2Proof.Machine.execFx25Tag mode s
  | .fx25TagSelftest => Sys2Proof.Machine.execFx25TagSelftest s
  | .rsEncode mode h => Sys2Proof.Machine.execRsEncode mode h s
  | .gfAlpha x => Sys2Proof.Machine.execGfAlpha x s
  | .gfLog x => Sys2Proof.Machine.execGfLog x s
  | .rsGenpoly sel idx => Sys2Proof.Machine.execRsGenpoly sel idx s

end Sys2Proof.Machine
end

