-- ==== Sys2Proof/Machine/HostPort.lean ====
section
/-!
DEFINITION. The register window and the environment's actions (spec/20_memory.md R68-R79; spec/60_exceptions.md R240,
R250, R251; spec/70_reset_and_hazards.md R265).
-/

namespace Sys2Proof.Machine

/-- Execute(w) (R240): a word that is no command reports FATAL in the fatal state, else ILLEGAL; a command runs its
meaning, which makes the remaining common checks. -/
def execute (w : Word) (s : State) : Outcome :=
  match decode w with
  | .error _ => .next (s.raised (if s.fatal then .fatal else .illegal))
  | .ok i => exec i s

/-- The registers of the window (R70). -/
inductive Register where
  | cmd | status | value0 | value1
  deriving DecidableEq, Repr

/-- Where an access lands (R68, R70, R76): on a register, on nothing of the block, or on the window in a way the block does
not define. -/
inductive Access where
  | register (r : Register)
  | outside
  | undefined
  deriving DecidableEq, Repr

/-- A bus address as an offset of the 16-byte window at REG_BASE, if it lies in it (R68). -/
def windowOffset (address : Nat) : Option Nat :=
  if Config.regBase ≤ address ∧ address < Config.regBase + 16 then some (address - Config.regBase) else none

/-- The access of a number of bytes at an offset of the window (R70, R76). -/
def windowAccess (offset bytes : Nat) : Access :=
  if bytes ≠ 4 then .undefined
  else match offset with
    | 0x0 => .register .cmd
    | 0x4 => .register .status
    | 0x8 => .register .value0
    | 0xC => .register .value1
    | _ => .undefined

/-- The access of a number of bytes at a bus address (R68-R70, R76). One that begins below the window and reaches into it
is at no offset that is a multiple of 4. -/
def accessAt (address bytes : Nat) : Access :=
  match windowOffset address with
  | some offset => windowAccess offset bytes
  | none => if address < Config.regBase ∧ Config.regBase < address + bytes then .undefined else .outside

/-- What a read of a register returns (R21-R23, R79). -/
def State.readRegister (s : State) : Register → Word
  | .cmd => 0
  | .status => s.status
  | .value0 => s.value0
  | .value1 => s.value1

/-- A write of a register: CMD executes the word, the others ignore it (R21-R23, R79). -/
def writeRegister (r : Register) (w : Word) (s : State) : Outcome :=
  match r with
  | .cmd => execute w s
  | .status => .next s
  | .value0 => .next s
  | .value1 => .next s

/-- Reset (R265): every field of the block at its reset value. What is still to come from the environment, and what the
host has read, are not the block's (log entry 12). -/
def State.resetBlock (s : State) : State := { State.reset with inputs := s.inputs, busData := s.busData }

/-- One action of the environment (R251, R256). -/
def perform (a : HostAction) (s : State) : Outcome :=
  match a with
  | .command w => writeRegister .cmd w s
  | .write address bytes data =>
    match accessAt address bytes with
    | .register r => writeRegister r data s
    | .outside => .fault (.outsideWindow address)
    | .undefined => .refused (.unsupportedAccess address bytes)
  | .read address bytes =>
    match accessAt address bytes with
    | .register r => .next { s with busData := s.readRegister r }
    | .outside => .fault (.outsideWindow address)
    | .undefined => .refused (.unsupportedAccess address bytes)
  | .deliver block =>
    if block.length = Config.blockLen then .next (s.deliver block) else .refused (.notASampleBlock block.length)
  | .reset => .next s.resetBlock

/-- Take the oldest action of the environment; with none to come the block stands still (R279; log entry 2). -/
def nextAction (s : State) : Outcome :=
  match s.inputs with
  | [] => .next s
  | a :: rest => perform a { s with inputs := rest }

end Sys2Proof.Machine
end

