-- ==== Sys2Proof/Machine/Step.lean ====
section
/-!
DEFINITION. One step of the machine: one whole action of the environment (spec/60_exceptions.md R240, R250, R256).
-/

namespace Sys2Proof.Machine

/-- One step (R256): the oldest action still to come. -/
def step (s : State) : Host.Outcome State Fault Refusal := nextAction s

/-- The state in which the host's next action is the write of this word to CMD (log entry 1). -/
def State.withFetchWord (s : State) (nbits w : Nat) : State :=
  { s with inputs := .command (wordOfTable nbits w) :: s.inputs }

end Sys2Proof.Machine
end

