-- ==== Sys2Proof/Safety.lean ====
section
/-!
DEFINITION. What the claims speak of: the invariants of the state (spec/10_state.md R37 and the ranges R22, R26, R33, R38
give the fields), when a command runs its own rule (spec/60_exceptions.md R240), and which part of the state no command can
read yet (spec/10_state.md R31, R32, R39, R40).
-/

namespace Sys2Proof.Safety

open Sys2Proof.Machine

/-- R37 (a): the free list holds each handle whose owner is FREE exactly once, and no other handle. -/
def FreeListExact (s : State) : Prop :=
  s.free.Nodup ∧ ∀ h : Handle, h ∈ s.free ↔ s.slots[h].owner = .free

/-- The chunks the slots that are not FREE hold (R36, R37 (b)). -/
def chunksHeld (s : State) : Nat :=
  ((List.finRange 48).map fun h : Handle =>
    if s.slots[h].owner = .free then 0 else chunks (s.octets h).length).sum

/-- R37 (b): every chunk is unused or held. -/
def ChunksExact (s : State) : Prop := s.freeChunks + chunksHeld s = 48

/-- R37 (c): every FREE slot has the reset field values. -/
def FreeSlotsClear (s : State) : Prop :=
  ∀ h : Handle, s.slots[h].owner = .free → s.slots[h] = Slot.reset

/-- A slot belongs to instance i's destuffer exactly when it is the one that destuffer is receiving into (R33, R133). -/
def RxOwnership (s : State) : Prop :=
  ∀ (i : InstId) (h : Handle), s.dx[i].rx = some h ↔ s.slots[h].owner = .rx i

/-- The ranges of R33, and that a hunting destuffer receives no frame (R176, R178). -/
def DestufferRanges (d : Destuffer) : Prop :=
  d.ones ≤ 7 ∧ (∀ n, d.olen = some n → n ≤ 7) ∧ (d.olen = none → d.rx = none)

/-- R38: at most SBQ_DEPTH blocks, each of N samples. -/
def QueueBounded (s : State) : Prop :=
  s.sampleQueue.length ≤ Config.sbqDepth ∧ ∀ x ∈ s.sampleQueue, x.length = Config.blockLen

/-- R30, R31: every history and coefficient list has its filter's length. -/
def FilterLengths (s : State) : Prop :=
  s.pfHist.length = Config.pfTaps - 1 ∧
    ∀ i : InstId, s.deHist[i].length = Config.deTaps - 1 ∧ s.deCoef[i].length = Config.deTaps

/-- R22: bits [31:8] of STATUS read 0. R25, R26: acquisition runs only on a bank that was started, which only happens
after SYS_INIT, with a legal twist. -/
def ControlLegal (s : State) : Prop :=
  s.status.toNat < 256 ∧ (s.running = true → s.configured = true) ∧
    (s.configured = true → s.initDone = true ∧ s.twist.toNat < Config.twistCount)

/-- R268: after SYS_INIT the tables and generator polynomials are the ones the constants determine. -/
def TablesBuilt (s : State) : Prop :=
  s.initDone = true →
    s.gf = (buildGf gfPoly).tables ∧
      ∀ c : Code, s.genpoly c = buildGenLog (buildGf gfPoly).tables c.parity

/-- The pool part of the invariant, R37 with the destuffers' frames. -/
def PoolInv (s : State) : Prop :=
  FreeListExact s ∧ ChunksExact s ∧ FreeSlotsClear s ∧ RxOwnership s

/-- The invariant of every reachable state. -/
def Inv (s : State) : Prop :=
  PoolInv s ∧ (∀ i : InstId, DestufferRanges s.dx[i]) ∧ QueueBounded s ∧ FilterLengths s ∧ ControlLegal s ∧ TablesBuilt s

/-- A legal command other than NOP, SYS_INIT and STAT_READ passes the common checks here (R240). -/
def Ready (s : State) : Prop := s.fatal = false ∧ s.initDone = true

/-- The operand H passes the handle check as slot f (R169). -/
def HostFrame (s : State) (h : Nat) (f : Handle) : Prop := h = f.val ∧ s.slots[f].owner = .host

/-- The operand H fails the handle check (R169): too large, or a slot the host does not own. -/
def BadHandle (s : State) (h : Nat) : Prop := 48 ≤ h ∨ ∃ f : Handle, h = f.val ∧ s.slots[f].owner ≠ .host

/-- The response registers replaced, every other field as it was (R241, R243). -/
def responded (s : State) (code : Nat) (v0 v1 : Word) : State :=
  { s with status := BitVec.ofNat 32 code, value0 := v0, value1 := v1 }

/-- Two states that differ only in fields the spec marks ⊥ and says no command reads: the tables before SYS_INIT (R39,
R40), the coefficients and cores before the first DEMOD_START (R31, R32). -/
def SameReadable (s t : State) : Prop :=
  t = { s with alphaTo := t.alphaTo, indexOf := t.indexOf, genpoly16 := t.genpoly16, genpoly32 := t.genpoly32,
               genpoly64 := t.genpoly64, deCoef := t.deCoef, core := t.core } ∧
    (s.initDone = true →
      t.alphaTo = s.alphaTo ∧ t.indexOf = s.indexOf ∧ t.genpoly16 = s.genpoly16 ∧ t.genpoly32 = s.genpoly32 ∧
        t.genpoly64 = s.genpoly64) ∧
    (s.configured = true → t.deCoef = s.deCoef ∧ t.core = s.core)

/-- The bank's own state: filters, cores, arbitration, queue, twist and the two bank flags (R25, R26, R28, R30-R32, R38). -/
def SameBank (s t : State) : Prop :=
  t.configured = s.configured ∧ t.running = s.running ∧ t.twist = s.twist ∧ t.blockCounter = s.blockCounter ∧
    t.lastBlockCounter = s.lastBlockCounter ∧ t.lastFcs = s.lastFcs ∧ t.pfHist = s.pfHist ∧ t.deCoef = s.deCoef ∧
    t.deHist = s.deHist ∧ t.core = s.core ∧ t.sampleQueue = s.sampleQueue

/-- The frame store and the pools (R34-R36). -/
def SamePool (s t : State) : Prop :=
  t.slots = s.slots ∧ t.free = s.free ∧ t.freeChunks = s.freeChunks

/-- The GF table store (R65). -/
def SameTables (s t : State) : Prop :=
  t.alphaTo = s.alphaTo ∧ t.indexOf = s.indexOf ∧ t.genpoly16 = s.genpoly16 ∧ t.genpoly32 = s.genpoly32 ∧
    t.genpoly64 = s.genpoly64

/-- The values 10_state.md R44 gives the state after reset (the fields it marks ⊥ left out). -/
def AtReset (s : State) : Prop :=
  s.initDone = false ∧ s.fatal = false ∧ s.configured = false ∧ s.running = false ∧ s.twist = 0 ∧
    s.status = 0 ∧ s.value0 = 0 ∧ s.value1 = 0 ∧
    s.blockCounter = 0 ∧ s.lastBlockCounter = 0 ∧ s.lastFcs = 0 ∧ s.rxDropCount = 0 ∧ s.sampleDropCount = 0 ∧
    s.pfHist = List.replicate (Config.pfTaps - 1) 0 ∧
    (∀ i : InstId, s.deHist[i] = List.replicate (Config.deTaps - 1) 0) ∧
    (∀ i : InstId, s.dx[i] = { ones := 0, olen := none, oacc := 0, rx := none }) ∧
    (∀ h : Handle,
      s.slots[h] = { owner := .free, octets := [], metaByte := 0, fcs := 0, crc := 0, complete := false }) ∧
    s.free.map Fin.val = List.range 48 ∧ s.freeChunks = 48 ∧ s.sampleQueue = []

/-- The mask and match of every row of R86 and R88, written out. -/
def opcodeRows : List (Word × Word) :=
  [(0xFFFFFFFF, 0x00000000), (0xFFFFFFFF, 0x04000000), (0xFFFFFFF0, 0x08000000), (0xFFFFFF00, 0x20000000),
   (0xFFFFFFFF, 0x24000000), (0xFFFFFFFF, 0x28000000), (0xFFFFFFFF, 0x2C000000), (0xFCFFFFFE, 0x30000000),
   (0xFFFFFFFF, 0x40000000), (0xFC0FFFFF, 0x44000000), (0xFC0FFFFF, 0x48000000), (0xFC0FFF00, 0x4C000000),
   (0xFC0F0000, 0x50000000), (0xFC0FFFFF, 0x54000000), (0xFC0FFF00, 0x58000000), (0xFC0FFFFF, 0x5C000000),
   (0xFC0FFFFF, 0x60000000), (0xFC0FFFFF, 0x64000000), (0xFC0FFFFF, 0x68000000), (0xFC0FFFFF, 0x6C000000),
   (0xFC0FFFFF, 0x70000000), (0xFC0FFFFF, 0x74000000), (0xFC0FFFFF, 0x78000000), (0xFFFFFE00, 0x80000000),
   (0xFFFFFFF0, 0x84000000), (0xFFFFFFFF, 0x88000000), (0xFC0FFFF0, 0x8C000000), (0xFFFFFF00, 0x90000000),
   (0xFFFFFF00, 0x94000000), (0xFFFFFC80, 0x98000000)]

/-- Legal(w) of R240: the word has the shape of a row. -/
def Legal (w : Word) : Prop := ∃ r ∈ opcodeRows, w &&& r.1 = r.2

/-- A row of the opcode map: every word of its shape decodes to its command, with the fields of R87. -/
def Encodes (mask mtch : Word) (i : Word → Instr) : Prop := ∀ w : Word, w &&& mask = mtch → decode w = .ok (i w)

/-- The common checks of an ordinary command (R240): FATAL in the fatal state, then NOT_INIT before SYS_INIT. -/
def CommonChecks (i : Instr) : Prop :=
  ∀ s : State, (s.fatal = true → exec i s = .next (responded s 0x1F 0 0)) ∧
    (s.fatal = false → s.initDone = false → exec i s = .next (responded s 0x14 0 0))

/-- A command on a frame: BAD_HANDLE where the handle check fails (R169). -/
def HandleChecked (i : Nat → Instr) : Prop :=
  ∀ (s : State) (h : Nat), Ready s → BadHandle s h → exec (i h) s = .next (responded s 0x11 0 0)

/-- The commands that run before SYS_INIT (R240). -/
def BootCommand : Instr → Prop
  | .nop | .sysInit | .statRead _ => True
  | _ => False

/-- The handle operand of a command, if its format has one (R86). -/
def handleOf : Instr → Option Nat
  | .frameRelease h | .frameClear h | .frameAppend h _ | .frameRead h _ | .frameSize h | .frameSetMeta h _ _
  | .frameGetMeta h | .frameParseFcs h | .frameAddFcs h | .frameOk h | .frameComplete h | .frameGetFcs h
  | .frameGetCrc h | .hdlcStuff h | .rsEncode _ h => some h
  | _ => none

/-- The refused status codes of R242. -/
def RefusedCode (c : Word) : Prop :=
  c = 0x02 ∨ c = 0x03 ∨ c = 0x10 ∨ c = 0x11 ∨ c = 0x12 ∨ c = 0x13 ∨ c = 0x14 ∨ c = 0x15

/-- The chunks a frame of L octets holds, from the definition of the ceiling (R36): the least count whose capacity reaches
L. -/
def HoldsChunks (len n : Nat) : Prop := len ≤ n * Config.chunkSize ∧ ∀ m, len ≤ m * Config.chunkSize → n ≤ m

/-- Blocks elapsed since the last acceptance, modulo 2^32 (R127). -/
def elapsedBlocks (s : State) : Nat := (s.blockCounter.toNat + 2 ^ 32 - s.lastBlockCounter.toNat) % 2 ^ 32

/-- The stuffed zeros of a payload (R168). -/
def stuffedZeros (p : List Byte) : Nat := (stuffBits 0 (bitStream p)).length - 8 * p.length

/-- Removing the bit after every fifth consecutive 1, `ones` of them seen so far (R175). -/
def unstuffBits : Nat → List Bool → List Bool
  | _, [] => []
  | _, false :: bs => false :: unstuffBits 0 bs
  | _, [true] => [true]
  | ones, true :: b :: bs =>
    if ones + 1 = 5 then true :: unstuffBits 0 bs else true :: unstuffBits (ones + 1) (b :: bs)

/-- A codeword read as a polynomial, first symbol of highest degree, at a point (R207). -/
def evalAt (g : GfTables) (codeword : List Byte) (x : Byte) : Byte :=
  codeword.foldl (fun acc c => g.mul acc x ^^^ c) 0

/-- The product of two field elements as polynomials modulo 0x11D, bit by bit of the second (R202). -/
def polyMul (x y : Byte) : Byte :=
  (List.range 8).foldl (fun acc k => if y.getLsbD k then acc ^^^ Nat.iterate (gfDouble gfPoly) k x else acc) 0

/-- The tables every run that passes SYS_INIT has (R268). -/
def builtTables : GfTables := (buildGf gfPoly).tables

/-- The outputs of an FIR stage over a block: sample n comes from the window of the `taps` newest inputs, newest first,
the block's own before those of the history (R121, R122). -/
def firOutputs (coef hist : List Sample) (taps : Nat) (x : List Sample) : List Sample :=
  (List.range x.length).map fun n => Config.firArith coef (((x.take (n + 1)).reverse ++ hist).take taps)

/-- The history an FIR stage keeps after a block: the `taps` - 1 newest inputs, newest first (R121, R122). -/
def firHistory (hist : List Sample) (taps : Nat) (x : List Sample) : List Sample := (x.reverse ++ hist).take (taps - 1)

/-- A core over de-emphasised samples, in order: the line bits it emitted and the state it is left in (R124, R125). -/
def coreRun (c : Config.CoreState) (ds : List Sample) : List Bool × Config.CoreState :=
  ds.foldl (fun r d => (r.1 ++ (Config.coreStep r.2 d).2.toList, (Config.coreStep r.2 d).1)) ([], c)

/-- Line bits through instance i's destuffer, in order: the frames it returned and the state it is left in (R125). -/
def destuffRun (s : State) (i : InstId) (bs : List Bool) : List Handle × State :=
  bs.foldl (fun r b => (r.1 ++ (r.2.destuffBit i b).1.toList, (r.2.destuffBit i b).2)) ([], s)

/-- One instance over a filtered block (R125): de-emphasis with its own coefficients, its core on the result, and the bits
the core emitted into its destuffer. -/
def instanceRun (s : State) (i : InstId) (f : List Sample) : List Handle × State :=
  let core := coreRun s.core[i] (firOutputs s.deCoef[i] s.deHist[i] Config.deTaps f)
  destuffRun { s with deHist := s.deHist.set i (firHistory s.deHist[i] Config.deTaps f), core := s.core.set i core.2 } i core.1

/-- The candidates of one instance's run, arbitrated in completion order against the block's result so far (R129, R132). -/
def arbitrated (run : List Handle × State) (result : Option Handle) : Option Handle × State :=
  run.1.foldl (fun r h => r.2.arbitrate h r.1) (result, run.2)

/-- One block through the bank (R120, R132): the pre-filter, then instances 0, 1 and 2, each arbitrated right after its run,
then the counter, then the hand-over of the result to the host. -/
def blockRun (s : State) (x : List Sample) : Option Handle × State :=
  let f := firOutputs Config.pfCoef s.pfHist Config.pfTaps x
  let r0 := arbitrated (instanceRun { s with pfHist := firHistory s.pfHist Config.pfTaps x } 0 f) none
  let r1 := arbitrated (instanceRun r0.2 1 f) r0.1
  let r2 := arbitrated (instanceRun r1.2 2 f) r1.1
  let t := { r2.2 with blockCounter := r2.2.blockCounter + 1 }
  match r2.1 with
  | some h => (some h, { t with slots := t.slots.set h { t.slots[h] with owner := .host } })
  | none => (none, t)

/-- A line bit b that instance i's destuffer takes as data, with `ones` 1s seen before it (R175). -/
def IsDataBit (ones : Nat) (b : Bool) : Prop := (b = true ∧ ones < 6) ∨ (b = false ∧ ones ≠ 5 ∧ ones ≠ 6)

/-- The destuffer after a data bit that leaves its partial octet with `n` bits (R175, R176). -/
def tookBit (d : Destuffer) (b : Bool) (n : Nat) : Destuffer :=
  { d with ones := if b then d.ones + 1 else 0, oacc := d.oacc >>> 1 ||| (if b then 0x80 else 0), olen := some n }

/-- The destuffer after a data bit whose octet could not be stored: hunting, with no frame (R176). -/
def droppedOctet (d : Destuffer) (b : Bool) : Destuffer := { tookBit d b 0 with olen := none, rx := none }

end Sys2Proof.Safety
end

