-- ==== Sys2Proof/Certificates/Slice0/Obligations.lean ====
section
/-!
DEFINITION. The statements for the provers. Each docstring names the rule of spec/ it formalises, or says what it rests on.
-/

open Sys2Proof Sys2Proof.Machine Sys2Proof.Safety

/-! ## Reset, encoding, execution cycle -/

/-- R44, R265: reset gives every field its value, from any state; what is still to come from the environment stays (the
model's choice, log entry 12). -/
def Obligations.ResetGivesSpecValues : Prop :=
  AtReset State.reset ∧
    ∀ (s : State) (rest : List HostAction), s.inputs = .reset :: rest →
      ∃ t, step s = .next t ∧ AtReset t ∧ t.inputs = rest

/-- The invariant holds right after reset (R37, R44). -/
def Obligations.ResetSatisfiesInvariant : Prop := Inv State.reset

/-- Every step keeps the invariant: R37 (a)-(c), the ranges of R22, R26, R33, R38, the destuffers' ownership of their
frames, and the tables of R268. -/
def Obligations.StepKeepsInvariant : Prop := ∀ s s' : State, Inv s → step s = .next s' → Inv s'

/-- Decoding an encoded well-formed command gives it back (R86, R89, R96). -/
def Obligations.DecodeOfEncode : Prop := ∀ i : Instr, i.WellFormed → decode (encode i) = .ok i

/-- A word that decodes to a command is that command's encoding, so no bit of a legal word is dropped (R89, R96). -/
def Obligations.EncodeOfDecode : Prop :=
  ∀ (w : Word) (i : Instr), decode w = .ok i → i.WellFormed ∧ encode i = w

/-- R89, R90: exactly the words of some row decode, and no two rows share a word. -/
def Obligations.LegalWordsAreExactlyTheRows : Prop :=
  (∀ w : Word, (∃ i, decode w = .ok i) ↔ Legal w) ∧
    opcodeRows.Pairwise fun r q => ∀ w : Word, w &&& r.1 = r.2 → ¬ w &&& q.1 = q.2

/-- Words written out in R94 and R96 decode to the commands they stand for, and 0x4C200141 to none. -/
def Obligations.WrittenOutWordsDecode : Prop :=
  decode 0x04000000 = .ok .sysInit ∧ decode 0x64300000 = .ok (.frameAddFcs 3) ∧
    decode 0x4C200041 = .ok (.frameAppend 2 0x41) ∧ decode 0x5020000A = .ok (.frameRead 2 10) ∧
    decode 0x58500010 = .ok (.frameSetMeta 5 1 0) ∧ decode 0x20000003 = .ok (.demodStart 3) ∧
    decode 0x80000064 = .ok (.fx25PickMode 100) ∧ decode 0x84000004 = .ok (.fx25Tag 4) ∧
    decode 0x8C100004 = .ok (.rsEncode 4 1) ∧ decode 0x90000008 = .ok (.gfAlpha 8) ∧
    decode 0x98000105 = .ok (.rsGenpoly 1 5) ∧ decode 0x32000001 = .ok (.hdlcRxBit 2 true) ∧
    decode 0x08000004 = .ok (.statRead 4) ∧ ∀ i, decode 0x4C200141 ≠ .ok i

/-- A step in which the host writes a command word to CMD, as the bus write of it at REG_BASE or as the command issued,
runs exactly that command, on the state with the action taken off the list (R68, R240; the list of actions and its two
forms are the model's choice, log entries 1 and 16). -/
def Obligations.StepRunsDecodedCommand : Prop :=
  ∀ (s : State) (w : Word) (rest : List HostAction) (i : Instr),
    (s.inputs = .command w :: rest ∨ s.inputs = .write Config.regBase 4 w :: rest) → decode w = .ok i →
      step s = exec i { s with inputs := rest }

/-- R90: a word with an unassigned opcode or a set reserved bit ends with ILLEGAL and no other effect. -/
def Obligations.IllegalWordReportsIllegal : Prop :=
  ∀ (s : State) (w : Word), ¬ Legal w → s.fatal = false → execute w s = .next (responded s 0x10 0 0)

/-- R245: in the fatal state every word but a legal STAT_READ returns FATAL and changes nothing, STAT_READ works,
deliveries have no effect, and only reset leaves the state. With the spec's constants no command enters it (R201, R217):
SysInitRule and TagSelftestRule state the two entries for other constants. -/
def Obligations.FatalStateIsSticky : Prop :=
  (∀ (s : State) (w : Word), s.fatal = true → ¬ w &&& 0xFFFFFFF0 = 0x08000000 →
    execute w s = .next (responded s 0x1F 0 0)) ∧
  (∀ (s : State) (sel : Nat), s.fatal = true → sel ≤ 8 →
    ∃ v, exec (.statRead sel) s = .next (responded s 0x00 v 0) ∧ (sel = 0 → v.getLsbD 3 = true)) ∧
  (∀ (s : State) (x : List Sample), s.fatal = true → s.deliver x = s) ∧
  (∀ s t : State, s.fatal = true → s.inputs.head? ≠ some .reset → step s = .next t → t.fatal = true) ∧
  (∀ (s t : State) (i : Instr), s.fatal = false → exec i s = .next t → t.fatal = false)

/-- R240: before SYS_INIT only NOP, SYS_INIT and STAT_READ run; every other command ends with NOT_INIT. -/
def Obligations.NotInitBeforeSysInit : Prop :=
  ∀ (s : State) (i : Instr), s.fatal = false → s.initDone = false → ¬ BootCommand i →
    exec i s = .next (responded s 0x14 0 0)

/-- R242, R243: a command that ends with a refused status has changed nothing but the response registers, and both result
words are 0. -/
def Obligations.RefusedCommandChangesOnlyResponses : Prop :=
  ∀ (i : Instr) (s t : State), exec i s = .next t → RefusedCode t.status →
    t = { s with status := t.status, value0 := 0, value1 := 0 }

/-- R242: every command answers, with one of the codes of the table other than ILLEGAL (that is for words that are no
command: IllegalWordReportsIllegal), and each code only from the commands its row names. -/
def Obligations.StatusCodesOnlyFromTheirCommands : Prop :=
  ∀ (i : Instr) (s : State), ∃ t, exec i s = .next t ∧
    (t.status = 0x00 ∨ t.status = 0x01 ∨ t.status = 0x02 ∨ t.status = 0x03 ∨ t.status = 0x11 ∨ t.status = 0x12 ∨
      t.status = 0x13 ∨ t.status = 0x14 ∨ t.status = 0x15 ∨ t.status = 0x1F) ∧
    (t.status = 0x01 → i = .demodProcess ∨ (∃ n b, i = .hdlcRxBit n b) ∨ ∃ n, i = .fx25PickMode n) ∧
    (t.status = 0x02 → i = .demodProcess) ∧
    (t.status = 0x03 → i = .frameAcquire ∨ (∃ h b, i = .frameAppend h b) ∨ (∃ h, i = .frameAddFcs h) ∨
      (∃ h, i = .hdlcStuff h) ∨ ∃ m h, i = .rsEncode m h) ∧
    (t.status = 0x11 → ∃ h, handleOf i = some h) ∧
    (t.status = 0x12 → (∃ n, i = .statRead n) ∨ (∃ n, i = .demodStart n) ∨ (∃ n b, i = .hdlcRxBit n b) ∨
      (∃ h n, i = .frameRead h n) ∨ (∃ n, i = .fx25Tag n) ∨ (∃ m h, i = .rsEncode m h) ∨ ∃ n k, i = .rsGenpoly n k) ∧
    (t.status = 0x13 → (∃ h, i = .frameParseFcs h) ∨ ∃ m h, i = .rsEncode m h) ∧
    (t.status = 0x14 → ¬ BootCommand i) ∧
    (t.status = 0x15 → i = .demodProcess) ∧
    (t.status = 0x1F → (s.fatal = true ∧ ∀ n, i ≠ .statRead n) ∨ i = .sysInit ∨ i = .fx25TagSelftest)

/-- R68, R70, R76, R79, at the addresses from REG_BASE on: reads of STATUS, VALUE0 and VALUE1 return them, a read of CMD
returns 0, reads change nothing else; writes to the three response registers are ignored; an access that touches the 16
bytes and is not 32 bits at a multiple of 4 is refused, one that begins below and reaches in among them. The word a read
returns is kept in the model's own field (log entry 5), a command issued is the write of CMD (log entry 16), and the stop
outside the window, below and above, is the model's (log entry 4). -/
def Obligations.RegisterWindowAccesses : Prop :=
  ∀ (s : State) (w : Word),
    perform (.read Config.regBase 4) s = .next { s with busData := 0 } ∧
    perform (.read (Config.regBase + 0x4) 4) s = .next { s with busData := s.status } ∧
    perform (.read (Config.regBase + 0x8) 4) s = .next { s with busData := s.value0 } ∧
    perform (.read (Config.regBase + 0xC) 4) s = .next { s with busData := s.value1 } ∧
    perform (.write Config.regBase 4 w) s = execute w s ∧ perform (.command w) s = execute w s ∧
    perform (.write (Config.regBase + 0x4) 4 w) s = .next s ∧ perform (.write (Config.regBase + 0x8) 4 w) s = .next s ∧
    perform (.write (Config.regBase + 0xC) 4 w) s = .next s ∧
    (∀ a n, a < Config.regBase + 16 → (Config.regBase ≤ a ∨ Config.regBase < a + n) →
      (∀ k, k < 4 → ¬ (a = Config.regBase + 4 * k ∧ n = 4)) →
      perform (.read a n) s = .refused (.unsupportedAccess a n) ∧
        perform (.write a n w) s = .refused (.unsupportedAccess a n)) ∧
    ∀ a n, (a < Config.regBase ∧ a + n ≤ Config.regBase) ∨ Config.regBase + 16 ≤ a →
      perform (.read a n) s = .fault (.outsideWindow a) ∧ perform (.write a n w) s = .fault (.outsideWindow a)

/-- R250: a delivery of N samples is ignored while fatal or not running, else dropped and counted when the queue is full,
else queued last; nothing else changes. That an action is the head of a list is the model's choice (log entry 1). -/
def Obligations.DeliveryQueuesOrDrops : Prop :=
  ∀ (s : State) (x : List Sample) (rest : List HostAction),
    s.inputs = .deliver x :: rest → x.length = Config.blockLen →
    ((s.fatal = true ∨ s.running = false) → step s = .next { s with inputs := rest }) ∧
    (s.fatal = false → s.running = true → s.sampleQueue.length = Config.sbqDepth →
      step s = .next { s with inputs := rest, sampleDropCount := s.sampleDropCount + 1 }) ∧
    (s.fatal = false → s.running = true → s.sampleQueue.length ≠ Config.sbqDepth →
      step s = .next { s with inputs := rest, sampleQueue := s.sampleQueue ++ [x] })

/-! ## Whole-machine rules -/

/-- Fields the spec marks ⊥ are never read (R31, R32, R39, R40): two states that differ only there take the same kind of
step, with the same responses and again only that difference, so no run can tell which values log entry 8 chose. -/
def Obligations.UnbuiltFieldsAreUnobservable : Prop :=
  ∀ s t : State, SameReadable s t →
    match step s, step t with
    | .next s', .next t' => SameReadable s' t'
    | .fault a, .fault b => a = b
    | .refused a, .refused b => a = b
    | _, _ => False

/-- R25: only the named commands write the control flags, and in which direction; with the spec's constants no command
changes st.fatal (R201, R217). -/
def Obligations.ControlFlagWriters : Prop :=
  ∀ (i : Instr) (s t : State), exec i s = .next t →
    (t.initDone ≠ s.initDone → i = .sysInit ∧ t.initDone = true) ∧
    t.fatal = s.fatal ∧
    (t.configured ≠ s.configured → (∃ tw, i = .demodStart tw) ∧ t.configured = true) ∧
    (t.running ≠ s.running → ((∃ tw, i = .demodStart tw) ∧ t.running = true) ∨ (i = .demodStop ∧ t.running = false))

/-- Which commands leave which part of the state alone (R28, R29, R39, R40, R61, R65, R67): the frame of every family. -/
def Obligations.FamilyFrames : Prop :=
  ∀ (i : Instr) (s t : State), exec i s = .next t →
    t.inputs = s.inputs ∧ t.busData = s.busData ∧ t.sampleDropCount = s.sampleDropCount ∧
    ((∀ tw, i ≠ .demodStart tw) → i ≠ .demodStop → i ≠ .demodProcess → SameBank s t) ∧
    ((∀ tw, i ≠ .demodStart tw) → i ≠ .demodProcess → (∀ n b, i ≠ .hdlcRxBit n b) → t.dx = s.dx) ∧
    (i ≠ .demodProcess → (∀ n b, i ≠ .hdlcRxBit n b) → t.rxDropCount = s.rxDropCount) ∧
    ((∀ tw, i ≠ .demodStart tw) → t.deCoef = s.deCoef ∧ t.twist = s.twist) ∧
    (i ≠ .sysInit → SameTables s t) ∧ (s.initDone = true → SameTables s t) ∧
    (i = .nop ∨ i = .sysInit ∨ (∃ n, i = .statRead n) ∨ i = .demodStop ∨ i = .demodLocked ∨ (∃ h n, i = .frameRead h n) ∨
      (∃ h, i = .frameSize h ∨ i = .frameGetMeta h ∨ i = .frameOk h ∨ i = .frameComplete h ∨ i = .frameGetFcs h ∨
        i = .frameGetCrc h) ∨ (∃ n, i = .fx25PickMode n) ∨ (∃ m, i = .fx25Tag m) ∨ i = .fx25TagSelftest ∨
      (∃ x, i = .gfAlpha x ∨ i = .gfLog x) ∨ (∃ n k, i = .rsGenpoly n k) → SamePool s t)

/-- Frame ownership protects (R150, R253, R272): in a state of the invariant, a command leaves every host-owned slot it does
not name exactly as it was, whatever else it does. -/
def Obligations.UnnamedHostFramesUntouched : Prop :=
  ∀ (i : Instr) (s t : State) (f : Handle), Inv s → exec i s = .next t → s.slots[f].owner = .host →
    handleOf i ≠ some f.val → t.slots[f] = s.slots[f]

/-! ## System commands -/

/-- R110. -/
def Obligations.NopRule : Prop :=
  Encodes 0xFFFFFFFF 0x00000000 (fun _ => .nop) ∧
    ∀ s : State, (s.fatal = false → exec .nop s = .next (responded s 0x00 0 0)) ∧
      (s.fatal = true → exec .nop s = .next (responded s 0x1F 0 0))

/-- R111: SYS_INIT builds the tables once; a second one changes nothing; with a polynomial or tag table that fails its check
it ends FATAL with cause 1 or 2. -/
def Obligations.SysInitRule : Prop :=
  Encodes 0xFFFFFFFF 0x04000000 (fun _ => .sysInit) ∧
  (∀ s : State, s.fatal = true → exec .sysInit s = .next (responded s 0x1F 0 0)) ∧
  (∀ s : State, s.fatal = false → s.initDone = true → exec .sysInit s = .next (responded s 0x00 0 0)) ∧
  (∀ s : State, s.fatal = false → s.initDone = false →
    exec .sysInit s = .next { responded s 0x00 0 0 with
      alphaTo := builtTables.alphaTo, indexOf := builtTables.indexOf,
      genpoly16 := (buildGen builtTables 16).map (fun c => builtTables.indexOf[c.toNat]),
      genpoly32 := (buildGen builtTables 32).map (fun c => builtTables.indexOf[c.toNat]),
      genpoly64 := (buildGen builtTables 64).map (fun c => builtTables.indexOf[c.toNat]),
      initDone := true }) ∧
  ∀ (p : BitVec 9) (tags : List Long) (s : State), s.initDone = false →
    ((buildGf p).ok = false →
      (sysInitRule p tags s).finish s = { responded s 0x1F 1 0 with fatal := true }) ∧
    ((buildGf p).ok = true → tagSelfTest tags = false →
      (sysInitRule p tags s).finish s = { responded s 0x1F 2 0 with fatal := true })

/-- R27, R112: STAT_READ in every state, the fatal state and the time before SYS_INIT included; the STATE word bit by
bit. -/
def Obligations.StatReadRule : Prop :=
  Encodes 0xFFFFFFF0 0x08000000 (fun w => .statRead (bits w 3 0)) ∧
  ∀ s : State,
    (∃ v : Word, exec (.statRead 0) s = .next (responded s 0x00 v 0) ∧
      v.getLsbD 0 = s.initDone ∧ v.getLsbD 1 = s.configured ∧ v.getLsbD 2 = s.running ∧ v.getLsbD 3 = s.fatal ∧
      v.getLsbD 4 = (s.configured && (Config.coreLocked s.core[0] || Config.coreLocked s.core[1] ||
        Config.coreLocked s.core[2])) ∧
      bits v 7 5 = 0 ∧ bits v 15 8 = s.twist.toNat ∧ bits v 31 16 = 0) ∧
    exec (.statRead 1) s = .next (responded s 0x00 s.blockCounter 0) ∧
    exec (.statRead 2) s = .next (responded s 0x00 s.lastBlockCounter 0) ∧
    exec (.statRead 3) s = .next (responded s 0x00 (BitVec.ofNat 32 s.lastFcs.toNat) 0) ∧
    exec (.statRead 4) s = .next (responded s 0x00 s.rxDropCount 0) ∧
    exec (.statRead 5) s = .next (responded s 0x00 s.sampleDropCount 0) ∧
    exec (.statRead 6) s = .next (responded s 0x00 (BitVec.ofNat 32 s.free.length) 0) ∧
    exec (.statRead 7) s = .next (responded s 0x00 (BitVec.ofNat 32 s.freeChunks) 0) ∧
    exec (.statRead 8) s = .next (responded s 0x00 (BitVec.ofNat 32 s.sampleQueue.length) 0) ∧
    ∀ sel, 9 ≤ sel → exec (.statRead sel) s = .next (responded s 0x12 0 0)

/-! ## The demodulator bank -/

/-- R141: DEMOD_START on a state whose pool is sound. The frames in reception are released in instance order, every bank
field is reset or loaded, and nothing else changes. -/
def Obligations.DemodStartRule : Prop :=
  Encodes 0xFFFFFF00 0x20000000 (fun w => .demodStart (bits w 7 0)) ∧ (∀ tw, CommonChecks (.demodStart tw)) ∧
  (∀ (s : State) (tw : Nat), Ready s → Config.twistCount ≤ tw →
    exec (.demodStart tw) s = .next (responded s 0x12 0 0)) ∧
  ∀ (s : State) (tw : Nat), Ready s → PoolInv s → tw < Config.twistCount →
    ∃ t, exec (.demodStart tw) s = .next t ∧
      t = { responded s 0x00 0 0 with
        slots := t.slots, free := t.free, freeChunks := t.freeChunks, dx := t.dx, deCoef := t.deCoef, deHist := t.deHist,
        core := t.core, pfHist := List.replicate (Config.pfTaps - 1) 0, sampleQueue := [], blockCounter := 0,
        lastBlockCounter := 0, lastFcs := 0, twist := BitVec.ofNat 8 tw, configured := true, running := true } ∧
      (∀ i : InstId, t.dx[i] = { ones := 0, olen := none, oacc := 0, rx := none } ∧
        t.deCoef[i] = Config.deemphTable tw i ∧ t.deHist[i] = List.replicate (Config.deTaps - 1) 0 ∧
        t.core[i] = Config.coreInit i) ∧
      (∀ h : Handle, t.slots[h] = if ∃ i : InstId, s.dx[i].rx = some h then Slot.reset else s.slots[h]) ∧
      t.free = ([2, 1, 0] : List InstId).filterMap (fun i => s.dx[i].rx) ++ s.free ∧
      t.freeChunks = s.freeChunks + ((([0, 1, 2] : List InstId).filterMap fun i => s.dx[i].rx).map
        fun h => chunks (s.octets h).length).sum

/-- R142. -/
def Obligations.DemodStopRule : Prop :=
  Encodes 0xFFFFFFFF 0x24000000 (fun _ => .demodStop) ∧ CommonChecks .demodStop ∧
    ∀ s : State, Ready s → exec .demodStop s = .next { responded s 0x00 0 0 with running := false }

/-- R143, errors: BAD_STATE before the first DEMOD_START, EMPTY with no block queued, nothing changed. -/
def Obligations.DemodProcessErrors : Prop :=
  Encodes 0xFFFFFFFF 0x28000000 (fun _ => .demodProcess) ∧ CommonChecks .demodProcess ∧
  ∀ s : State, Ready s →
    (s.configured = false → exec .demodProcess s = .next (responded s 0x15 0 0)) ∧
    (s.configured = true → s.sampleQueue = [] → exec .demodProcess s = .next (responded s 0x02 0 0))

/-- R143 with R120-R122, R125, R129 and R132: DEMOD_PROCESS with a block queued completes. Where the histories have their
filters' lengths (an invariant, StepKeepsInvariant), the oldest block goes through the pre-filter, the three instances in
order and the arbitration, as `blockRun` composes them. In every state the counter advances, the result is OK with the
delivered handle or NONE, VALUE1 is the locked value after the block, and the rest stays. -/
def Obligations.DemodProcessCompletes : Prop :=
  (∀ (s : State) (x : List Sample) (rest : List (List Sample)), Ready s → s.configured = true →
    s.sampleQueue = x :: rest → FilterLengths s →
    ∃ r t, blockRun { s with sampleQueue := rest } x = (r, t) ∧
      exec .demodProcess s = .next (match r with
        | some h => responded t 0x00 (BitVec.ofNat 32 h.val) (if t.locked then 1 else 0)
        | none => responded t 0x01 0 (if t.locked then 1 else 0))) ∧
  ∀ (s : State) (x : List Sample) (rest : List (List Sample)), Ready s → s.configured = true →
    s.sampleQueue = x :: rest →
    ∃ t, exec .demodProcess s = .next t ∧ t.sampleQueue = rest ∧ t.blockCounter = s.blockCounter + 1 ∧
      t.value1 = (if t.locked then 1 else 0) ∧
      ((t.status = 0x00 ∧ ∃ h : Handle, t.value0 = BitVec.ofNat 32 h.val ∧ t.slots[h].owner = .host) ∨
        (t.status = 0x01 ∧ t.value0 = 0)) ∧
      t = { s with
        status := t.status, value0 := t.value0, value1 := t.value1, sampleQueue := rest, pfHist := t.pfHist,
        deHist := t.deHist, core := t.core, dx := t.dx, slots := t.slots, free := t.free, freeChunks := t.freeChunks,
        blockCounter := t.blockCounter, lastBlockCounter := t.lastBlockCounter, lastFcs := t.lastFcs,
        rxDropCount := t.rxDropCount }

/-- R133: on a state of the invariant, a block hands at most one frame to the host, the one in VALUE0, and every slot that
is then neither free nor the host's is a destuffer's unfinished frame. -/
def Obligations.BlockDeliversAtMostOneFrame : Prop :=
  ∀ (s t : State) (x : List Sample) (rest : List (List Sample)), Inv s → Ready s → s.configured = true →
    s.sampleQueue = x :: rest → exec .demodProcess s = .next t →
    (∀ h : Handle, t.slots[h].owner = .host ↔
      s.slots[h].owner = .host ∨ (t.status = 0x00 ∧ t.value0 = BitVec.ofNat 32 h.val)) ∧
    (t.status = 0x00 → ∀ h : Handle, t.value0 = BitVec.ofNat 32 h.val →
      s.slots[h].owner ≠ .host ∧ t.slots[h].crc = 0x0F47 ∧ t.slots[h].complete = true ∧ t.slots[h].metaByte = 0x10 ∧
        3 ≤ t.slots[h].octets.length) ∧
    ∀ h : Handle, t.slots[h].owner ≠ .host → t.slots[h].owner ≠ .free → ∃ i : InstId, t.dx[i].rx = some h

/-- R140, R144. -/
def Obligations.DemodLockedRule : Prop :=
  Encodes 0xFFFFFFFF 0x2C000000 (fun _ => .demodLocked) ∧ CommonChecks .demodLocked ∧
  ∀ s : State, Ready s →
    exec .demodLocked s = .next (responded s 0x00
      (if s.configured = true ∧ ∃ i : InstId, Config.coreLocked s.core[i] = true then 1 else 0) 0)

/-- R145: HDLC_RX_BIT feeds the destuffer of a legal instance, hands a completed frame to the host without arbitration,
and refuses instance 3 and above. -/
def Obligations.HdlcRxBitRule : Prop :=
  Encodes 0xFCFFFFFE 0x30000000 (fun w => .hdlcRxBit (bits w 25 24) (w.getLsbD 0)) ∧
  (∀ n b, CommonChecks (.hdlcRxBit n b)) ∧
  (∀ (s : State) (n : Nat) (b : Bool), Ready s → 3 ≤ n → exec (.hdlcRxBit n b) s = .next (responded s 0x12 0 0)) ∧
  ∀ (s : State) (i : InstId) (b : Bool), Ready s →
    (∀ h, (s.destuffBit i b).1 = some h →
      exec (.hdlcRxBit i.val b) s = .next { responded (s.destuffBit i b).2 0x00 (BitVec.ofNat 32 h.val) 0 with
        slots := (s.destuffBit i b).2.slots.set h { (s.destuffBit i b).2.slots[h] with owner := .host } }) ∧
    ((s.destuffBit i b).1 = none →
      exec (.hdlcRxBit i.val b) s = .next (responded (s.destuffBit i b).2 0x01 0 0))

/-- R127, R129-R131: one candidate against the block's current result, with the whole next state. Accepted: it becomes the
result, its slot as it was, the FCS and the counter are remembered, and the earlier result, if any, is released. Rejected: it
is released and the result, with its slot, stays. -/
def Obligations.ArbitrationRule : Prop :=
  ∀ (s : State) (h : Handle) (result : Option Handle), result ≠ some h →
    (s.slots[h].fcs ≠ s.lastFcs ∨ 2 < elapsedBlocks s →
      (result = none →
        s.arbitrate h result = (some h, { s with lastFcs := s.slots[h].fcs, lastBlockCounter := s.blockCounter })) ∧
      ∀ r, result = some r → ∃ t, s.arbitrate h result = (some h, t) ∧ t.slots[h] = s.slots[h] ∧
        t = { s with
          lastFcs := s.slots[h].fcs, lastBlockCounter := s.blockCounter, slots := s.slots.set r Slot.reset,
          free := r :: s.free, freeChunks := s.freeChunks + chunks (s.octets r).length }) ∧
    (s.slots[h].fcs = s.lastFcs → elapsedBlocks s ≤ 2 →
      ∃ t, s.arbitrate h result = (result, t) ∧ (∀ r, result = some r → t.slots[r] = s.slots[r]) ∧
        t = { s with
          slots := s.slots.set h Slot.reset, free := h :: s.free,
          freeChunks := s.freeChunks + chunks (s.octets h).length })

/-- R128: the FCS accepted last is rejected in the same block and in the next two, and accepted after three. -/
def Obligations.DedupWindow : Prop :=
  ∀ (s t : State) (h k : Handle) (result res : Option Handle) (n : Nat),
    s.accepts h = true → result ≠ some h → s.arbitrate h result = (res, t) → t.slots[k].fcs = s.slots[h].fcs →
    ({ t with blockCounter := t.blockCounter + BitVec.ofNat 32 n }.accepts k = true ↔ 2 < n % 2 ^ 32)

/-! ## Destuffing -/

/-- R175, R176, R178 on one bit: a seventh 1 aborts and releases the frame; a 0 after five 1s is skipped; while hunting a
bit short of those only counts; any other bit is shifted into the partial octet, and the eighth one stores the octet, in the
frame in reception or in one newly acquired. -/
def Obligations.DestufferBitRules : Prop :=
  ∀ (s : State) (i : InstId),
    (6 ≤ s.dx[i].ones → ∃ t, s.destuffBit i true = (none, t) ∧
      t.dx[i] = { s.dx[i] with ones := 7, olen := none, rx := none } ∧
      (∀ j : InstId, j ≠ i → t.dx[j] = s.dx[j]) ∧ t.rxDropCount = s.rxDropCount ∧
      (s.dx[i].rx = none → t.slots = s.slots ∧ t.free = s.free ∧ t.freeChunks = s.freeChunks) ∧
      ∀ h, s.dx[i].rx = some h → t.slots = s.slots.set h Slot.reset ∧ t.free = h :: s.free ∧
        t.freeChunks = s.freeChunks + chunks (s.octets h).length) ∧
    (s.dx[i].ones = 5 → s.destuffBit i false = (none, { s with dx := s.dx.set i { s.dx[i] with ones := 0 } })) ∧
    (s.dx[i].olen = none → s.dx[i].ones < 6 →
      s.destuffBit i true = (none, { s with dx := s.dx.set i { s.dx[i] with ones := s.dx[i].ones + 1 } })) ∧
    (s.dx[i].olen = none → s.dx[i].ones ≠ 6 →
      s.destuffBit i false = (none, { s with dx := s.dx.set i { s.dx[i] with ones := 0 } })) ∧
    ∀ b : Bool, IsDataBit s.dx[i].ones b →
      (∀ n, s.dx[i].olen = some n → n < 7 →
        s.destuffBit i b = (none, { s with dx := s.dx.set i (tookBit s.dx[i] b (n + 1)) })) ∧
      (∀ h, s.dx[i].olen = some 7 → s.dx[i].rx = some h →
        ((s.octets h).length % Config.chunkSize = 0 → s.freeChunks ≠ 0) →
        s.destuffBit i b = (none, { s with
          dx := s.dx.set i (tookBit s.dx[i] b 0),
          slots := s.slots.set h { s.slots[h] with octets := s.octets h ++ [(tookBit s.dx[i] b 0).oacc] },
          freeChunks := s.freeChunks - (if (s.octets h).length % Config.chunkSize = 0 then 1 else 0) })) ∧
      ∀ h rest, s.dx[i].olen = some 7 → s.dx[i].rx = none → s.free = h :: rest →
        ((s.octets h).length % Config.chunkSize = 0 → s.freeChunks ≠ 0) →
        s.destuffBit i b = (none, { s with
          dx := s.dx.set i { tookBit s.dx[i] b 0 with rx := some h }, free := rest,
          slots := s.slots.set h { s.slots[h] with
            owner := .rx i, octets := s.octets h ++ [(tookBit s.dx[i] b 0).oacc] },
          freeChunks := s.freeChunks - (if (s.octets h).length % Config.chunkSize = 0 then 1 else 0) })

/-- R177: a flag (a 0 after six 1s) closes the frame: handed on when octet-aligned, at least 3 octets long (the spec's
MIN_RX_OCTETS) and its residue is 0x0F47, released otherwise; the destuffer is then at the start of a frame. -/
def Obligations.FlagClosesFrame : Prop :=
  ∀ (s : State) (i : InstId), s.dx[i].ones = 6 →
    ∃ r t, s.destuffBit i false = (r, t) ∧ t.dx = s.dx.set i { ones := 0, olen := some 0, oacc := 0, rx := none } ∧
      (s.dx[i].rx = none → r = none ∧ t.slots = s.slots ∧ t.free = s.free ∧ t.freeChunks = s.freeChunks) ∧
      ∀ h, s.dx[i].rx = some h →
        (s.dx[i].olen = some 7 ∧ 3 ≤ (s.octets h).length ∧ crc16 (s.octets h) = 0x0F47 →
          r = some h ∧ t.free = s.free ∧ t.freeChunks = s.freeChunks ∧
          t.slots = s.slots.set h { s.slots[h] with
            fcs := receivedFcs (s.octets h), crc := 0x0F47, complete := true, metaByte := 0x10 }) ∧
        (¬ (s.dx[i].olen = some 7 ∧ 3 ≤ (s.octets h).length ∧ crc16 (s.octets h) = 0x0F47) →
          r = none ∧ t.slots = s.slots.set h Slot.reset ∧ t.free = h :: s.free ∧
          t.freeChunks = s.freeChunks + chunks (s.octets h).length)

/-- R176: an octet that cannot be stored abandons the frame, counts it and sends the destuffer hunting, with the whole next
state: no slot is free for its first octet; a slot is free but no chunk, and the acquired slot, clear by R37 (c), is free
again; or the frame in reception needs a chunk and none is left, and it is released. -/
def Obligations.ReceptionExhaustionIsCounted : Prop :=
  ∀ (s : State) (i : InstId) (b : Bool), s.dx[i].olen = some 7 → IsDataBit s.dx[i].ones b →
    (s.dx[i].rx = none → s.free = [] →
      s.destuffBit i b = (none, { s with
        dx := s.dx.set i (droppedOctet s.dx[i] b), rxDropCount := s.rxDropCount + 1 })) ∧
    (∀ h rest, s.dx[i].rx = none → s.free = h :: rest → s.slots[h] = Slot.reset → s.freeChunks = 0 →
      s.destuffBit i b = (none, { s with
        dx := s.dx.set i (droppedOctet s.dx[i] b), rxDropCount := s.rxDropCount + 1 })) ∧
    ∀ h, s.dx[i].rx = some h → (s.octets h).length % Config.chunkSize = 0 → s.freeChunks = 0 →
      s.destuffBit i b = (none, { s with
        dx := s.dx.set i (droppedOctet s.dx[i] b), rxDropCount := s.rxDropCount + 1,
        slots := s.slots.set h Slot.reset, free := h :: s.free, freeChunks := chunks (s.octets h).length })

/-! ## Frames, pools, CRC -/

/-- R154: the chunk count is the ceiling, and an append draws a chunk exactly when the length is a multiple of
CHUNK_SIZE. -/
def Obligations.ChunkCountIsCeiling : Prop :=
  ∀ len : Nat, HoldsChunks len (chunks len) ∧
    chunks (len + 1) = chunks len + (if len % Config.chunkSize = 0 then 1 else 0)

/-- R180. -/
def Obligations.FrameAcquireRule : Prop :=
  Encodes 0xFFFFFFFF 0x40000000 (fun _ => .frameAcquire) ∧ CommonChecks .frameAcquire ∧
  ∀ s : State, Ready s →
    (s.free = [] → exec .frameAcquire s = .next (responded s 0x03 0 0)) ∧
    ∀ (h : Handle) (rest : List Handle), s.free = h :: rest →
      exec .frameAcquire s = .next { responded s 0x00 (BitVec.ofNat 32 h.val) 0 with
        free := rest, slots := s.slots.set h { s.slots[h] with owner := .host } }

/-- R181. -/
def Obligations.FrameReleaseRule : Prop :=
  Encodes 0xFC0FFFFF 0x44000000 (fun w => .frameRelease (bits w 25 20)) ∧ (∀ h, CommonChecks (.frameRelease h)) ∧
  HandleChecked .frameRelease ∧
  ∀ (s : State) (h : Nat) (f : Handle), Ready s → HostFrame s h f →
    exec (.frameRelease h) s = .next { responded s 0x00 0 0 with
      slots := s.slots.set f { owner := .free, octets := [], metaByte := 0, fcs := 0, crc := 0, complete := false },
      free := f :: s.free, freeChunks := s.freeChunks + chunks (s.octets f).length }

/-- R182. -/
def Obligations.FrameClearRule : Prop :=
  Encodes 0xFC0FFFFF 0x48000000 (fun w => .frameClear (bits w 25 20)) ∧ (∀ h, CommonChecks (.frameClear h)) ∧
  HandleChecked .frameClear ∧
  ∀ (s : State) (h : Nat) (f : Handle), Ready s → HostFrame s h f →
    exec (.frameClear h) s = .next { responded s 0x00 0 0 with
      slots := s.slots.set f { owner := .host, octets := [], metaByte := 0, fcs := 0, crc := 0, complete := false },
      freeChunks := s.freeChunks + chunks (s.octets f).length }

/-- R183. -/
def Obligations.FrameAppendRule : Prop :=
  Encodes 0xFC0FFF00 0x4C000000 (fun w => .frameAppend (bits w 25 20) (w.extractLsb 7 0)) ∧
  (∀ h b, CommonChecks (.frameAppend h b)) ∧ (∀ b, HandleChecked (fun h => .frameAppend h b)) ∧
  ∀ (s : State) (h : Nat) (f : Handle) (b : Byte), Ready s → HostFrame s h f →
    ((s.octets f).length % Config.chunkSize = 0 → s.freeChunks = 0 →
      exec (.frameAppend h b) s = .next (responded s 0x03 0 0)) ∧
    ((s.octets f).length % Config.chunkSize ≠ 0 ∨ s.freeChunks ≠ 0 →
      exec (.frameAppend h b) s =
        .next { responded s 0x00 (BitVec.ofNat 32 ((s.octets f).length + 1)) 0 with
          slots := s.slots.set f { s.slots[f] with octets := s.octets f ++ [b] },
          freeChunks := s.freeChunks - (if (s.octets f).length % Config.chunkSize = 0 then 1 else 0) })

/-- R184. -/
def Obligations.FrameReadRule : Prop :=
  Encodes 0xFC0F0000 0x50000000 (fun w => .frameRead (bits w 25 20) (bits w 15 0)) ∧
  (∀ h n, CommonChecks (.frameRead h n)) ∧ (∀ n, HandleChecked (fun h => .frameRead h n)) ∧
  ∀ (s : State) (h idx : Nat) (f : Handle), Ready s → HostFrame s h f →
    (∀ hlt : idx < (s.octets f).length,
      exec (.frameRead h idx) s = .next (responded s 0x00 (BitVec.ofNat 32 ((s.octets f)[idx]'hlt).toNat) 0)) ∧
    ((s.octets f).length ≤ idx → exec (.frameRead h idx) s = .next (responded s 0x12 0 0))

/-- R185, R187, R190-R193: the six commands that read one property of a frame and change only the responses. -/
def Obligations.FrameReadersRule : Prop :=
  Encodes 0xFC0FFFFF 0x54000000 (fun w => .frameSize (bits w 25 20)) ∧
  Encodes 0xFC0FFFFF 0x5C000000 (fun w => .frameGetMeta (bits w 25 20)) ∧
  Encodes 0xFC0FFFFF 0x68000000 (fun w => .frameOk (bits w 25 20)) ∧
  Encodes 0xFC0FFFFF 0x6C000000 (fun w => .frameComplete (bits w 25 20)) ∧
  Encodes 0xFC0FFFFF 0x70000000 (fun w => .frameGetFcs (bits w 25 20)) ∧
  Encodes 0xFC0FFFFF 0x74000000 (fun w => .frameGetCrc (bits w 25 20)) ∧
  (∀ h, CommonChecks (.frameSize h) ∧ CommonChecks (.frameGetMeta h) ∧ CommonChecks (.frameOk h) ∧
    CommonChecks (.frameComplete h) ∧ CommonChecks (.frameGetFcs h) ∧ CommonChecks (.frameGetCrc h)) ∧
  HandleChecked .frameSize ∧ HandleChecked .frameGetMeta ∧ HandleChecked .frameOk ∧ HandleChecked .frameComplete ∧
  HandleChecked .frameGetFcs ∧ HandleChecked .frameGetCrc ∧
  ∀ (s : State) (h : Nat) (f : Handle), Ready s → HostFrame s h f →
    exec (.frameSize h) s = .next (responded s 0x00 (BitVec.ofNat 32 (s.octets f).length) 0) ∧
    exec (.frameGetMeta h) s = .next (responded s 0x00 (BitVec.ofNat 32 s.slots[f].metaByte.toNat) 0) ∧
    exec (.frameOk h) s = .next (responded s 0x00 (if s.slots[f].crc = 0x0F47 then 1 else 0) 0) ∧
    exec (.frameComplete h) s = .next (responded s 0x00 (if s.slots[f].complete = true then 1 else 0) 0) ∧
    exec (.frameGetFcs h) s = .next (responded s 0x00 (BitVec.ofNat 32 s.slots[f].fcs.toNat) 0) ∧
    exec (.frameGetCrc h) s = .next (responded s 0x00 (BitVec.ofNat 32 s.slots[f].crc.toNat) 0)

/-- R186. -/
def Obligations.FrameSetMetaRule : Prop :=
  Encodes 0xFC0FFF00 0x58000000
    (fun w => .frameSetMeta (bits w 25 20) (w.extractLsb 7 4) (w.extractLsb 3 0)) ∧
  (∀ h a b, CommonChecks (.frameSetMeta h a b)) ∧ (∀ a b, HandleChecked (fun h => .frameSetMeta h a b)) ∧
  ∀ (s : State) (h : Nat) (f : Handle) (src typ : Nibble), Ready s → HostFrame s h f →
    exec (.frameSetMeta h src typ) s = .next { responded s 0x00 0 0 with
      slots := s.slots.set f { s.slots[f] with metaByte := BitVec.ofNat 8 (16 * src.toNat + typ.toNat) } }

/-- R164, R188. -/
def Obligations.FrameParseFcsRule : Prop :=
  Encodes 0xFC0FFFFF 0x60000000 (fun w => .frameParseFcs (bits w 25 20)) ∧ (∀ h, CommonChecks (.frameParseFcs h)) ∧
  HandleChecked .frameParseFcs ∧
  ∀ (s : State) (h : Nat) (f : Handle), Ready s → HostFrame s h f →
    ((s.octets f).length < 2 → exec (.frameParseFcs h) s = .next (responded s 0x13 0 0)) ∧
    ∀ (pre : List Byte) (lo hi : Byte), s.octets f = pre ++ [lo, hi] →
      exec (.frameParseFcs h) s =
        .next { responded s 0x00 (BitVec.ofNat 32 (crc16 (pre ++ [lo, hi])).toNat)
            (BitVec.ofNat 32 (256 * hi.toNat + lo.toNat)) with
          slots := s.slots.set f { s.slots[f] with
            fcs := BitVec.ofNat 16 (256 * hi.toNat + lo.toNat), crc := crc16 (pre ++ [lo, hi]), complete := true } }

/-- R165, R189: all or nothing (R158). -/
def Obligations.FrameAddFcsRule : Prop :=
  Encodes 0xFC0FFFFF 0x64000000 (fun w => .frameAddFcs (bits w 25 20)) ∧ (∀ h, CommonChecks (.frameAddFcs h)) ∧
  HandleChecked .frameAddFcs ∧
  ∀ (s : State) (h : Nat) (f : Handle), Ready s → HostFrame s h f →
    (s.freeChunks + chunks (s.octets f).length < chunks ((s.octets f).length + 2) →
      exec (.frameAddFcs h) s = .next (responded s 0x03 0 0)) ∧
    (chunks ((s.octets f).length + 2) ≤ s.freeChunks + chunks (s.octets f).length →
      exec (.frameAddFcs h) s =
        .next { responded s 0x00 (BitVec.ofNat 32 (crc16 (s.octets f)).toNat)
            (BitVec.ofNat 32 ((s.octets f).length + 2)) with
          slots := s.slots.set f { s.slots[f] with
            octets := s.octets f ++ [BitVec.ofNat 8 ((crc16 (s.octets f)).toNat % 256),
              BitVec.ofNat 8 ((crc16 (s.octets f)).toNat / 256)],
            fcs := crc16 (s.octets f), crc := 0x0F47, complete := true },
          freeChunks := s.freeChunks - (chunks ((s.octets f).length + 2) - chunks (s.octets f).length) })

/-- R194, on a state whose pool is sound (R37): the stuffed frame is a new host frame, the named frame is unchanged, all of
it or nothing. -/
def Obligations.HdlcStuffRule : Prop :=
  Encodes 0xFC0FFFFF 0x78000000 (fun w => .hdlcStuff (bits w 25 20)) ∧ (∀ h, CommonChecks (.hdlcStuff h)) ∧
  HandleChecked .hdlcStuff ∧
  ∀ (s : State) (h : Nat) (f : Handle), Ready s → PoolInv s → HostFrame s h f →
    (s.free = [] ∨ s.freeChunks < chunks (stuff (s.octets f)).length →
      exec (.hdlcStuff h) s = .next (responded s 0x03 0 0)) ∧
    ∀ (h2 : Handle) (rest : List Handle), s.free = h2 :: rest → chunks (stuff (s.octets f)).length ≤ s.freeChunks →
      h2 ≠ f ∧
      exec (.hdlcStuff h) s =
        .next { responded s 0x00 (BitVec.ofNat 32 h2.val) (BitVec.ofNat 32 (stuff (s.octets f)).length) with
          free := rest,
          slots := s.slots.set h2 { owner := .host, octets := stuff (s.octets f), metaByte := s.slots[f].metaByte,
                                    fcs := 0, crc := 0, complete := false },
          freeChunks := s.freeChunks - chunks (stuff (s.octets f)).length }

/-- R155, R156, R181 (corner case): after a release the next acquire returns the same handle, clear, and the free list is
as before the release. -/
def Obligations.ReleaseThenAcquireIsLifo : Prop :=
  ∀ (s : State) (h : Nat) (f : Handle), Ready s → HostFrame s h f →
    ∃ t u, exec (.frameRelease h) s = .next t ∧ exec .frameAcquire t = .next u ∧
      u.value0 = BitVec.ofNat 32 f.val ∧ u.free = s.free ∧ u.slots[f] = { Slot.reset with owner := .host } ∧
      ∀ g : Handle, g ≠ f → u.slots[g] = s.slots[g]

/-- R163, R165: FRAME_ADD_FCS then FRAME_PARSE_FCS gives the sentinel and the same FCS, and FRAME_OK then answers 1. -/
def Obligations.AddThenParseIsOk : Prop :=
  ∀ (s t : State) (h : Nat) (f : Handle), Ready s → HostFrame s h f → exec (.frameAddFcs h) s = .next t →
    t.status = 0x00 →
    ∃ u, exec (.frameParseFcs h) t = .next u ∧ u.value0 = 0x0F47 ∧
      u.value1 = BitVec.ofNat 32 (crc16 (s.octets f)).toNat ∧ exec (.frameOk h) u = .next (responded u 0x00 1 0)

/-- R163: the residue over a frame is the sentinel exactly when its last two octets are the FCS of the rest, low octet
first. -/
def Obligations.ResidueIsSentinelIffFcsMatches : Prop :=
  ∀ (p : List Byte) (f : Half), residue (p ++ fcsOctets f) = 0x0F47 ↔ f = crc16 p

/-- R161: the source's accumulator form and CRC16 agree on every input. -/
def Obligations.AccumulatorCrcAgrees : Prop := ∀ os : List Byte, crc16Acc os = crc16 os

/-- R168: the length of a stuffed payload, and its first octet. -/
def Obligations.StuffedLength : Prop :=
  ∀ p : List Byte, (stuff p).length = 2 + p.length + (stuffedZeros p + 7) / 8 ∧
    8 * p.length ≤ (stuffBits 0 (bitStream p)).length ∧ (stuff p).head? = some 0x7E

/-- R166-R168: the stuffed stream is flag, body, flag, and at most 7 leading flag bits; the body has no six consecutive 1s
and gives the payload's bits when the bit after every five 1s is taken out. -/
def Obligations.StuffedStreamShape : Prop :=
  ∀ p : List Byte, ∃ (body : List Bool) (n : Nat), n < 8 ∧
    bitStream (stuff p) = octetBits 0x7E ++ body ++ octetBits 0x7E ++ (octetBits 0x7E).take n ∧
    ¬ List.replicate 6 true <:+: body ∧ unstuffBits 0 body = bitStream p

/-- R179: a payload of at least 3 octets that ends in a valid FCS, stuffed and fed to a destuffer that has seen no bit,
comes back as one frame with the same octets, on the last bit of the closing flag and on no other. Three is the spec's
MIN_RX_OCTETS (log entry 9). -/
def Obligations.StuffDestuffRoundTrip : Prop :=
  ∀ (s : State) (i : InstId) (p : List Byte) (h : Handle) (rest : List Handle),
    s.dx[i] = { ones := 0, olen := none, oacc := 0, rx := none } → 3 ≤ p.length → residue p = 0x0F47 →
    s.free = h :: rest → s.slots[h] = Slot.reset → chunks p.length ≤ s.freeChunks →
    ∃ (n : Nat) (t : State),
      s.destuffBits i (bitStream (stuff p)) =
        (List.replicate (15 + (stuffBits 0 (bitStream p)).length) none ++ [some h] ++ List.replicate n none, t) ∧
      n < 8 ∧
      t.slots[h] = { owner := .rx i, octets := p, metaByte := 0x10, fcs := receivedFcs p, crc := 0x0F47,
                     complete := true } ∧
      t.free = rest ∧ t.freeChunks = s.freeChunks - chunks p.length

/-! ## FX.25 -/

/-- R216, R220. -/
def Obligations.PickModeRule : Prop :=
  Encodes 0xFFFFFE00 0x80000000 (fun w => .fx25PickMode (bits w 8 0)) ∧ (∀ n, CommonChecks (.fx25PickMode n)) ∧
  ∀ (s : State) (n : Nat), Ready s →
    (n ≤ 32 → exec (.fx25PickMode n) s = .next (responded s 0x00 0x00302004 0)) ∧
    (33 ≤ n → n ≤ 64 → exec (.fx25PickMode n) s = .next (responded s 0x00 0x00504003 0)) ∧
    (65 ≤ n → n ≤ 128 → exec (.fx25PickMode n) s = .next (responded s 0x00 0x00A08006 0)) ∧
    (129 ≤ n → n ≤ 191 → exec (.fx25PickMode n) s = .next (responded s 0x00 0x00FFBF09 0)) ∧
    (192 ≤ n → n ≤ 223 → exec (.fx25PickMode n) s = .next (responded s 0x00 0x00FFDF05 0)) ∧
    (224 ≤ n → n ≤ 239 → exec (.fx25PickMode n) s = .next (responded s 0x00 0x00FFEF01 0)) ∧
    (240 ≤ n → exec (.fx25PickMode n) s = .next (responded s 0x01 0 0))

/-- R222, and the distance R214 gives: all 12 listed tags differ pairwise in exactly 32 bits. -/
def Obligations.TagRule : Prop :=
  Encodes 0xFFFFFFF0 0x84000000 (fun w => .fx25Tag (bits w 3 0)) ∧ (∀ m, CommonChecks (.fx25Tag m)) ∧
  (∀ (s : State) (m : Nat), Ready s →
    (1 ≤ m → m ≤ 11 → exec (.fx25Tag m) s = .next (responded s 0x00 (BitVec.ofNat 32 (tagAt tagTable m).toNat)
      (BitVec.ofNat 32 ((tagAt tagTable m).toNat / 2 ^ 32)))) ∧
    (m = 0 ∨ 12 ≤ m → exec (.fx25Tag m) s = .next (responded s 0x12 0 0))) ∧
  tagTable.length = 12 ∧ tagTable.Pairwise fun a b => popcount (a ^^^ b) = 32

/-- R217, R221: 55 pairs pass; a table with a pair at another distance makes the rule fatal with cause 2. -/
def Obligations.TagSelftestRule : Prop :=
  Encodes 0xFFFFFFFF 0x88000000 (fun _ => .fx25TagSelftest) ∧ CommonChecks .fx25TagSelftest ∧
  (∀ s : State, Ready s → exec .fx25TagSelftest s = .next (responded s 0x00 55 0)) ∧
  ∀ (tags : List Long) (s : State),
    (∃ t u, 1 ≤ t ∧ t ≤ 11 ∧ 1 ≤ u ∧ u ≤ 11 ∧ t ≠ u ∧ popcount (tagAt tags t ^^^ tagAt tags u) ≠ 32) →
    (tagSelftestRule tags s).finish s = { responded s 0x1F 2 0 with fatal := true }

/-- R215, R223: RS_ENCODE after SYS_INIT (R268). The checks come in the order handle, mode, length, chunks; on success the
parity is appended and VALUE0 is the block size. -/
def Obligations.RsEncodeRule : Prop :=
  Encodes 0xFC0FFFF0 0x8C000000 (fun w => .rsEncode (bits w 3 0) (bits w 25 20)) ∧
  (∀ m h, CommonChecks (.rsEncode m h)) ∧ (∀ m, HandleChecked (fun h => .rsEncode m h)) ∧
  ∀ (s : State) (h : Nat) (f : Handle) (m : Nat), Ready s → TablesBuilt s → HostFrame s h f →
    (m = 0 ∨ 12 ≤ m → exec (.rsEncode m h) s = .next (responded s 0x12 0 0)) ∧
    ∀ block k c, (m, block, k, c) ∈ [(1, 255, 239, Code.p16), (2, 144, 128, .p16), (3, 80, 64, .p16), (4, 48, 32, .p16),
        (5, 255, 223, .p32), (6, 160, 128, .p32), (7, 96, 64, .p32), (8, 64, 32, .p32), (9, 255, 191, .p64),
        (10, 192, 128, .p64), (11, 128, 64, .p64)] →
      ((s.octets f).length ≠ k → exec (.rsEncode m h) s = .next (responded s 0x13 0 0)) ∧
      ((s.octets f).length = k → s.freeChunks + chunks k < chunks block →
        exec (.rsEncode m h) s = .next (responded s 0x03 0 0)) ∧
      ((s.octets f).length = k → chunks block ≤ s.freeChunks + chunks k →
        ∃ parity, parity.length = block - k ∧
          parity = rsParity builtTables c.parity (buildGenLog builtTables c.parity) (s.octets f) ∧
          exec (.rsEncode m h) s = .next { responded s 0x00 (BitVec.ofNat 32 block) 0 with
            slots := s.slots.set f { s.slots[f] with octets := s.octets f ++ parity },
            freeChunks := s.freeChunks - (chunks block - chunks k) })

/-- R224, R225, R226: the table reads, and on the built tables their named corner cases. -/
def Obligations.TableReadRules : Prop :=
  Encodes 0xFFFFFF00 0x90000000 (fun w => .gfAlpha (w.extractLsb 7 0)) ∧
  Encodes 0xFFFFFF00 0x94000000 (fun w => .gfLog (w.extractLsb 7 0)) ∧
  Encodes 0xFFFFFC80 0x98000000 (fun w => .rsGenpoly (bits w 9 8) (bits w 6 0)) ∧
  (∀ x, CommonChecks (.gfAlpha x) ∧ CommonChecks (.gfLog x)) ∧ (∀ n k, CommonChecks (.rsGenpoly n k)) ∧
  (∀ (s : State) (x : Byte), Ready s →
    exec (.gfAlpha x) s = .next (responded s 0x00 (BitVec.ofNat 32 s.alphaTo[x.toNat].toNat) 0) ∧
    exec (.gfLog x) s = .next (responded s 0x00 (BitVec.ofNat 32 s.indexOf[x.toNat].toNat) 0)) ∧
  (∀ (s : State) (n k : Nat), Ready s → 3 ≤ n ∨ (n = 0 ∧ 16 < k) ∨ (n = 1 ∧ 32 < k) ∨ (n = 2 ∧ 64 < k) →
    exec (.rsGenpoly n k) s = .next (responded s 0x12 0 0)) ∧
  (∀ (s : State) (n k : Nat) (c : Code) (l : Byte), Ready s → (n, c) ∈ [(0, Code.p16), (1, .p32), (2, .p64)] →
    k ≤ c.parity → (s.genpoly c)[k]? = some l →
    exec (.rsGenpoly n k) s = .next (responded s 0x00 (BitVec.ofNat 32 l.toNat)
      (BitVec.ofNat 32 s.alphaTo[l.toNat].toNat))) ∧
  ∀ (s : State) (c : Code), Ready s → TablesBuilt s →
    (s.genpoly c).length = c.parity + 1 ∧ (s.genpoly c)[c.parity]? = some 0 ∧ s.alphaTo[255] = 0 ∧ s.indexOf[0] = 255

/-- R200-R202: on the built tables log and antilog are inverse, zero has log 255, and multiplication through the tables is
multiplication of polynomials modulo 0x11D. -/
def Obligations.TableMultiplicationIsFieldMultiplication : Prop :=
  (∀ e : Nat, builtTables.log (builtTables.exp e) = e % 255) ∧
  (∀ x : Byte, x ≠ 0 → builtTables.exp (builtTables.log x) = x) ∧ builtTables.log 0 = 255 ∧
  ∀ x y : Byte, builtTables.mul x y = polyMul x y

/-- R207: with the built tables, every codeword evaluates to 0 at α^1 .. α^n, for each of the three codes and every data
block. -/
def Obligations.CodewordHasTheGeneratorRoots : Prop :=
  ∀ (c : Code) (data : List Byte) (r : Nat), 1 ≤ r → r ≤ c.parity →
    evalAt builtTables (data ++ rsParity builtTables c.parity (buildGenLog builtTables c.parity) data)
      (builtTables.exp r) = 0

/-- R208, R209: with the built tables parity is linear, all-zero data gives all-zero parity, and leading zeros change
nothing. -/
def Obligations.ParityIsLinear : Prop :=
  ∀ (c : Code) (a b : List Byte) (n : Nat),
    (a.length = b.length →
      rsParity builtTables c.parity (buildGenLog builtTables c.parity) (List.zipWith (· ^^^ ·) a b) =
        List.zipWith (· ^^^ ·) (rsParity builtTables c.parity (buildGenLog builtTables c.parity) a)
          (rsParity builtTables c.parity (buildGenLog builtTables c.parity) b)) ∧
    rsParity builtTables c.parity (buildGenLog builtTables c.parity) (List.replicate n 0) =
      List.replicate c.parity 0 ∧
    rsParity builtTables c.parity (buildGenLog builtTables c.parity) (List.replicate n 0 ++ a) =
      rsParity builtTables c.parity (buildGenLog builtTables c.parity) a
end

