-- ==== Sys2Proof/Laws/State.lean ====
section
/-!
SUPPORT. What each named update does to each field of the state, and how slots and destuffers read back.
-/

namespace Sys2Proof.Machine

/-! ## State.respond -/

@[simp] theorem State.respond_status (s : State) (c : Status) (v0 v1 : Word) :
    (s.respond c v0 v1).status = Word.ofBits c.code := rfl
@[simp] theorem State.respond_value0 (s : State) (c : Status) (v0 v1 : Word) :
    (s.respond c v0 v1).value0 = v0 := rfl
@[simp] theorem State.respond_value1 (s : State) (c : Status) (v0 v1 : Word) :
    (s.respond c v0 v1).value1 = v1 := rfl
@[simp] theorem State.respond_initDone (s : State) (c : Status) (v0 v1 : Word) :
    (s.respond c v0 v1).initDone = s.initDone := rfl
@[simp] theorem State.respond_fatal (s : State) (c : Status) (v0 v1 : Word) :
    (s.respond c v0 v1).fatal = s.fatal := rfl
@[simp] theorem State.respond_configured (s : State) (c : Status) (v0 v1 : Word) :
    (s.respond c v0 v1).configured = s.configured := rfl
@[simp] theorem State.respond_running (s : State) (c : Status) (v0 v1 : Word) :
    (s.respond c v0 v1).running = s.running := rfl
@[simp] theorem State.respond_twist (s : State) (c : Status) (v0 v1 : Word) :
    (s.respond c v0 v1).twist = s.twist := rfl
@[simp] theorem State.respond_blockCounter (s : State) (c : Status) (v0 v1 : Word) :
    (s.respond c v0 v1).blockCounter = s.blockCounter := rfl
@[simp] theorem State.respond_lastBlockCounter (s : State) (c : Status) (v0 v1 : Word) :
    (s.respond c v0 v1).lastBlockCounter = s.lastBlockCounter := rfl
@[simp] theorem State.respond_lastFcs (s : State) (c : Status) (v0 v1 : Word) :
    (s.respond c v0 v1).lastFcs = s.lastFcs := rfl
@[simp] theorem State.respond_rxDropCount (s : State) (c : Status) (v0 v1 : Word) :
    (s.respond c v0 v1).rxDropCount = s.rxDropCount := rfl
@[simp] theorem State.respond_sampleDropCount (s : State) (c : Status) (v0 v1 : Word) :
    (s.respond c v0 v1).sampleDropCount = s.sampleDropCount := rfl
@[simp] theorem State.respond_pfHist (s : State) (c : Status) (v0 v1 : Word) :
    (s.respond c v0 v1).pfHist = s.pfHist := rfl
@[simp] theorem State.respond_deCoef (s : State) (c : Status) (v0 v1 : Word) :
    (s.respond c v0 v1).deCoef = s.deCoef := rfl
@[simp] theorem State.respond_deHist (s : State) (c : Status) (v0 v1 : Word) :
    (s.respond c v0 v1).deHist = s.deHist := rfl
@[simp] theorem State.respond_core (s : State) (c : Status) (v0 v1 : Word) :
    (s.respond c v0 v1).core = s.core := rfl
@[simp] theorem State.respond_dx (s : State) (c : Status) (v0 v1 : Word) :
    (s.respond c v0 v1).dx = s.dx := rfl
@[simp] theorem State.respond_slots (s : State) (c : Status) (v0 v1 : Word) :
    (s.respond c v0 v1).slots = s.slots := rfl
@[simp] theorem State.respond_free (s : State) (c : Status) (v0 v1 : Word) :
    (s.respond c v0 v1).free = s.free := rfl
@[simp] theorem State.respond_freeChunks (s : State) (c : Status) (v0 v1 : Word) :
    (s.respond c v0 v1).freeChunks = s.freeChunks := rfl
@[simp] theorem State.respond_sampleQueue (s : State) (c : Status) (v0 v1 : Word) :
    (s.respond c v0 v1).sampleQueue = s.sampleQueue := rfl
@[simp] theorem State.respond_alphaTo (s : State) (c : Status) (v0 v1 : Word) :
    (s.respond c v0 v1).alphaTo = s.alphaTo := rfl
@[simp] theorem State.respond_indexOf (s : State) (c : Status) (v0 v1 : Word) :
    (s.respond c v0 v1).indexOf = s.indexOf := rfl
@[simp] theorem State.respond_genpoly16 (s : State) (c : Status) (v0 v1 : Word) :
    (s.respond c v0 v1).genpoly16 = s.genpoly16 := rfl
@[simp] theorem State.respond_genpoly32 (s : State) (c : Status) (v0 v1 : Word) :
    (s.respond c v0 v1).genpoly32 = s.genpoly32 := rfl
@[simp] theorem State.respond_genpoly64 (s : State) (c : Status) (v0 v1 : Word) :
    (s.respond c v0 v1).genpoly64 = s.genpoly64 := rfl
@[simp] theorem State.respond_inputs (s : State) (c : Status) (v0 v1 : Word) :
    (s.respond c v0 v1).inputs = s.inputs := rfl
@[simp] theorem State.respond_busData (s : State) (c : Status) (v0 v1 : Word) :
    (s.respond c v0 v1).busData = s.busData := rfl

/-! ## State.raised -/

@[simp] theorem State.raised_status (s : State) (c : Status) :
    (s.raised c).status = Word.ofBits c.code := rfl
@[simp] theorem State.raised_value0 (s : State) (c : Status) :
    (s.raised c).value0 = 0 := rfl
@[simp] theorem State.raised_value1 (s : State) (c : Status) :
    (s.raised c).value1 = 0 := rfl
@[simp] theorem State.raised_initDone (s : State) (c : Status) :
    (s.raised c).initDone = s.initDone := rfl
@[simp] theorem State.raised_fatal (s : State) (c : Status) :
    (s.raised c).fatal = s.fatal := rfl
@[simp] theorem State.raised_configured (s : State) (c : Status) :
    (s.raised c).configured = s.configured := rfl
@[simp] theorem State.raised_running (s : State) (c : Status) :
    (s.raised c).running = s.running := rfl
@[simp] theorem State.raised_twist (s : State) (c : Status) :
    (s.raised c).twist = s.twist := rfl
@[simp] theorem State.raised_blockCounter (s : State) (c : Status) :
    (s.raised c).blockCounter = s.blockCounter := rfl
@[simp] theorem State.raised_lastBlockCounter (s : State) (c : Status) :
    (s.raised c).lastBlockCounter = s.lastBlockCounter := rfl
@[simp] theorem State.raised_lastFcs (s : State) (c : Status) :
    (s.raised c).lastFcs = s.lastFcs := rfl
@[simp] theorem State.raised_rxDropCount (s : State) (c : Status) :
    (s.raised c).rxDropCount = s.rxDropCount := rfl
@[simp] theorem State.raised_sampleDropCount (s : State) (c : Status) :
    (s.raised c).sampleDropCount = s.sampleDropCount := rfl
@[simp] theorem State.raised_pfHist (s : State) (c : Status) :
    (s.raised c).pfHist = s.pfHist := rfl
@[simp] theorem State.raised_deCoef (s : State) (c : Status) :
    (s.raised c).deCoef = s.deCoef := rfl
@[simp] theorem State.raised_deHist (s : State) (c : Status) :
    (s.raised c).deHist = s.deHist := rfl
@[simp] theorem State.raised_core (s : State) (c : Status) :
    (s.raised c).core = s.core := rfl
@[simp] theorem State.raised_dx (s : State) (c : Status) :
    (s.raised c).dx = s.dx := rfl
@[simp] theorem State.raised_slots (s : State) (c : Status) :
    (s.raised c).slots = s.slots := rfl
@[simp] theorem State.raised_free (s : State) (c : Status) :
    (s.raised c).free = s.free := rfl
@[simp] theorem State.raised_freeChunks (s : State) (c : Status) :
    (s.raised c).freeChunks = s.freeChunks := rfl
@[simp] theorem State.raised_sampleQueue (s : State) (c : Status) :
    (s.raised c).sampleQueue = s.sampleQueue := rfl
@[simp] theorem State.raised_alphaTo (s : State) (c : Status) :
    (s.raised c).alphaTo = s.alphaTo := rfl
@[simp] theorem State.raised_indexOf (s : State) (c : Status) :
    (s.raised c).indexOf = s.indexOf := rfl
@[simp] theorem State.raised_genpoly16 (s : State) (c : Status) :
    (s.raised c).genpoly16 = s.genpoly16 := rfl
@[simp] theorem State.raised_genpoly32 (s : State) (c : Status) :
    (s.raised c).genpoly32 = s.genpoly32 := rfl
@[simp] theorem State.raised_genpoly64 (s : State) (c : Status) :
    (s.raised c).genpoly64 = s.genpoly64 := rfl
@[simp] theorem State.raised_inputs (s : State) (c : Status) :
    (s.raised c).inputs = s.inputs := rfl
@[simp] theorem State.raised_busData (s : State) (c : Status) :
    (s.raised c).busData = s.busData := rfl

/-! ## State.setSlot -/

@[simp] theorem State.setSlot_status (s : State) (h : Handle) (v : Slot) :
    (s.setSlot h v).status = s.status := rfl
@[simp] theorem State.setSlot_value0 (s : State) (h : Handle) (v : Slot) :
    (s.setSlot h v).value0 = s.value0 := rfl
@[simp] theorem State.setSlot_value1 (s : State) (h : Handle) (v : Slot) :
    (s.setSlot h v).value1 = s.value1 := rfl
@[simp] theorem State.setSlot_initDone (s : State) (h : Handle) (v : Slot) :
    (s.setSlot h v).initDone = s.initDone := rfl
@[simp] theorem State.setSlot_fatal (s : State) (h : Handle) (v : Slot) :
    (s.setSlot h v).fatal = s.fatal := rfl
@[simp] theorem State.setSlot_configured (s : State) (h : Handle) (v : Slot) :
    (s.setSlot h v).configured = s.configured := rfl
@[simp] theorem State.setSlot_running (s : State) (h : Handle) (v : Slot) :
    (s.setSlot h v).running = s.running := rfl
@[simp] theorem State.setSlot_twist (s : State) (h : Handle) (v : Slot) :
    (s.setSlot h v).twist = s.twist := rfl
@[simp] theorem State.setSlot_blockCounter (s : State) (h : Handle) (v : Slot) :
    (s.setSlot h v).blockCounter = s.blockCounter := rfl
@[simp] theorem State.setSlot_lastBlockCounter (s : State) (h : Handle) (v : Slot) :
    (s.setSlot h v).lastBlockCounter = s.lastBlockCounter := rfl
@[simp] theorem State.setSlot_lastFcs (s : State) (h : Handle) (v : Slot) :
    (s.setSlot h v).lastFcs = s.lastFcs := rfl
@[simp] theorem State.setSlot_rxDropCount (s : State) (h : Handle) (v : Slot) :
    (s.setSlot h v).rxDropCount = s.rxDropCount := rfl
@[simp] theorem State.setSlot_sampleDropCount (s : State) (h : Handle) (v : Slot) :
    (s.setSlot h v).sampleDropCount = s.sampleDropCount := rfl
@[simp] theorem State.setSlot_pfHist (s : State) (h : Handle) (v : Slot) :
    (s.setSlot h v).pfHist = s.pfHist := rfl
@[simp] theorem State.setSlot_deCoef (s : State) (h : Handle) (v : Slot) :
    (s.setSlot h v).deCoef = s.deCoef := rfl
@[simp] theorem State.setSlot_deHist (s : State) (h : Handle) (v : Slot) :
    (s.setSlot h v).deHist = s.deHist := rfl
@[simp] theorem State.setSlot_core (s : State) (h : Handle) (v : Slot) :
    (s.setSlot h v).core = s.core := rfl
@[simp] theorem State.setSlot_dx (s : State) (h : Handle) (v : Slot) :
    (s.setSlot h v).dx = s.dx := rfl
@[simp] theorem State.setSlot_slots (s : State) (h : Handle) (v : Slot) :
    (s.setSlot h v).slots = s.slots.set h v := rfl
@[simp] theorem State.setSlot_free (s : State) (h : Handle) (v : Slot) :
    (s.setSlot h v).free = s.free := rfl
@[simp] theorem State.setSlot_freeChunks (s : State) (h : Handle) (v : Slot) :
    (s.setSlot h v).freeChunks = s.freeChunks := rfl
@[simp] theorem State.setSlot_sampleQueue (s : State) (h : Handle) (v : Slot) :
    (s.setSlot h v).sampleQueue = s.sampleQueue := rfl
@[simp] theorem State.setSlot_alphaTo (s : State) (h : Handle) (v : Slot) :
    (s.setSlot h v).alphaTo = s.alphaTo := rfl
@[simp] theorem State.setSlot_indexOf (s : State) (h : Handle) (v : Slot) :
    (s.setSlot h v).indexOf = s.indexOf := rfl
@[simp] theorem State.setSlot_genpoly16 (s : State) (h : Handle) (v : Slot) :
    (s.setSlot h v).genpoly16 = s.genpoly16 := rfl
@[simp] theorem State.setSlot_genpoly32 (s : State) (h : Handle) (v : Slot) :
    (s.setSlot h v).genpoly32 = s.genpoly32 := rfl
@[simp] theorem State.setSlot_genpoly64 (s : State) (h : Handle) (v : Slot) :
    (s.setSlot h v).genpoly64 = s.genpoly64 := rfl
@[simp] theorem State.setSlot_inputs (s : State) (h : Handle) (v : Slot) :
    (s.setSlot h v).inputs = s.inputs := rfl
@[simp] theorem State.setSlot_busData (s : State) (h : Handle) (v : Slot) :
    (s.setSlot h v).busData = s.busData := rfl

/-! ## State.setOwner -/

@[simp] theorem State.setOwner_status (s : State) (h : Handle) (o : Owner) :
    (s.setOwner h o).status = s.status := rfl
@[simp] theorem State.setOwner_value0 (s : State) (h : Handle) (o : Owner) :
    (s.setOwner h o).value0 = s.value0 := rfl
@[simp] theorem State.setOwner_value1 (s : State) (h : Handle) (o : Owner) :
    (s.setOwner h o).value1 = s.value1 := rfl
@[simp] theorem State.setOwner_initDone (s : State) (h : Handle) (o : Owner) :
    (s.setOwner h o).initDone = s.initDone := rfl
@[simp] theorem State.setOwner_fatal (s : State) (h : Handle) (o : Owner) :
    (s.setOwner h o).fatal = s.fatal := rfl
@[simp] theorem State.setOwner_configured (s : State) (h : Handle) (o : Owner) :
    (s.setOwner h o).configured = s.configured := rfl
@[simp] theorem State.setOwner_running (s : State) (h : Handle) (o : Owner) :
    (s.setOwner h o).running = s.running := rfl
@[simp] theorem State.setOwner_twist (s : State) (h : Handle) (o : Owner) :
    (s.setOwner h o).twist = s.twist := rfl
@[simp] theorem State.setOwner_blockCounter (s : State) (h : Handle) (o : Owner) :
    (s.setOwner h o).blockCounter = s.blockCounter := rfl
@[simp] theorem State.setOwner_lastBlockCounter (s : State) (h : Handle) (o : Owner) :
    (s.setOwner h o).lastBlockCounter = s.lastBlockCounter := rfl
@[simp] theorem State.setOwner_lastFcs (s : State) (h : Handle) (o : Owner) :
    (s.setOwner h o).lastFcs = s.lastFcs := rfl
@[simp] theorem State.setOwner_rxDropCount (s : State) (h : Handle) (o : Owner) :
    (s.setOwner h o).rxDropCount = s.rxDropCount := rfl
@[simp] theorem State.setOwner_sampleDropCount (s : State) (h : Handle) (o : Owner) :
    (s.setOwner h o).sampleDropCount = s.sampleDropCount := rfl
@[simp] theorem State.setOwner_pfHist (s : State) (h : Handle) (o : Owner) :
    (s.setOwner h o).pfHist = s.pfHist := rfl
@[simp] theorem State.setOwner_deCoef (s : State) (h : Handle) (o : Owner) :
    (s.setOwner h o).deCoef = s.deCoef := rfl
@[simp] theorem State.setOwner_deHist (s : State) (h : Handle) (o : Owner) :
    (s.setOwner h o).deHist = s.deHist := rfl
@[simp] theorem State.setOwner_core (s : State) (h : Handle) (o : Owner) :
    (s.setOwner h o).core = s.core := rfl
@[simp] theorem State.setOwner_dx (s : State) (h : Handle) (o : Owner) :
    (s.setOwner h o).dx = s.dx := rfl
@[simp] theorem State.setOwner_slots (s : State) (h : Handle) (o : Owner) :
    (s.setOwner h o).slots = s.slots.set h { s.slots[h] with owner := o } := rfl
@[simp] theorem State.setOwner_free (s : State) (h : Handle) (o : Owner) :
    (s.setOwner h o).free = s.free := rfl
@[simp] theorem State.setOwner_freeChunks (s : State) (h : Handle) (o : Owner) :
    (s.setOwner h o).freeChunks = s.freeChunks := rfl
@[simp] theorem State.setOwner_sampleQueue (s : State) (h : Handle) (o : Owner) :
    (s.setOwner h o).sampleQueue = s.sampleQueue := rfl
@[simp] theorem State.setOwner_alphaTo (s : State) (h : Handle) (o : Owner) :
    (s.setOwner h o).alphaTo = s.alphaTo := rfl
@[simp] theorem State.setOwner_indexOf (s : State) (h : Handle) (o : Owner) :
    (s.setOwner h o).indexOf = s.indexOf := rfl
@[simp] theorem State.setOwner_genpoly16 (s : State) (h : Handle) (o : Owner) :
    (s.setOwner h o).genpoly16 = s.genpoly16 := rfl
@[simp] theorem State.setOwner_genpoly32 (s : State) (h : Handle) (o : Owner) :
    (s.setOwner h o).genpoly32 = s.genpoly32 := rfl
@[simp] theorem State.setOwner_genpoly64 (s : State) (h : Handle) (o : Owner) :
    (s.setOwner h o).genpoly64 = s.genpoly64 := rfl
@[simp] theorem State.setOwner_inputs (s : State) (h : Handle) (o : Owner) :
    (s.setOwner h o).inputs = s.inputs := rfl
@[simp] theorem State.setOwner_busData (s : State) (h : Handle) (o : Owner) :
    (s.setOwner h o).busData = s.busData := rfl

/-! ## State.setDx -/

@[simp] theorem State.setDx_status (s : State) (i : InstId) (d : Destuffer) :
    (s.setDx i d).status = s.status := rfl
@[simp] theorem State.setDx_value0 (s : State) (i : InstId) (d : Destuffer) :
    (s.setDx i d).value0 = s.value0 := rfl
@[simp] theorem State.setDx_value1 (s : State) (i : InstId) (d : Destuffer) :
    (s.setDx i d).value1 = s.value1 := rfl
@[simp] theorem State.setDx_initDone (s : State) (i : InstId) (d : Destuffer) :
    (s.setDx i d).initDone = s.initDone := rfl
@[simp] theorem State.setDx_fatal (s : State) (i : InstId) (d : Destuffer) :
    (s.setDx i d).fatal = s.fatal := rfl
@[simp] theorem State.setDx_configured (s : State) (i : InstId) (d : Destuffer) :
    (s.setDx i d).configured = s.configured := rfl
@[simp] theorem State.setDx_running (s : State) (i : InstId) (d : Destuffer) :
    (s.setDx i d).running = s.running := rfl
@[simp] theorem State.setDx_twist (s : State) (i : InstId) (d : Destuffer) :
    (s.setDx i d).twist = s.twist := rfl
@[simp] theorem State.setDx_blockCounter (s : State) (i : InstId) (d : Destuffer) :
    (s.setDx i d).blockCounter = s.blockCounter := rfl
@[simp] theorem State.setDx_lastBlockCounter (s : State) (i : InstId) (d : Destuffer) :
    (s.setDx i d).lastBlockCounter = s.lastBlockCounter := rfl
@[simp] theorem State.setDx_lastFcs (s : State) (i : InstId) (d : Destuffer) :
    (s.setDx i d).lastFcs = s.lastFcs := rfl
@[simp] theorem State.setDx_rxDropCount (s : State) (i : InstId) (d : Destuffer) :
    (s.setDx i d).rxDropCount = s.rxDropCount := rfl
@[simp] theorem State.setDx_sampleDropCount (s : State) (i : InstId) (d : Destuffer) :
    (s.setDx i d).sampleDropCount = s.sampleDropCount := rfl
@[simp] theorem State.setDx_pfHist (s : State) (i : InstId) (d : Destuffer) :
    (s.setDx i d).pfHist = s.pfHist := rfl
@[simp] theorem State.setDx_deCoef (s : State) (i : InstId) (d : Destuffer) :
    (s.setDx i d).deCoef = s.deCoef := rfl
@[simp] theorem State.setDx_deHist (s : State) (i : InstId) (d : Destuffer) :
    (s.setDx i d).deHist = s.deHist := rfl
@[simp] theorem State.setDx_core (s : State) (i : InstId) (d : Destuffer) :
    (s.setDx i d).core = s.core := rfl
@[simp] theorem State.setDx_dx (s : State) (i : InstId) (d : Destuffer) :
    (s.setDx i d).dx = s.dx.set i d := rfl
@[simp] theorem State.setDx_slots (s : State) (i : InstId) (d : Destuffer) :
    (s.setDx i d).slots = s.slots := rfl
@[simp] theorem State.setDx_free (s : State) (i : InstId) (d : Destuffer) :
    (s.setDx i d).free = s.free := rfl
@[simp] theorem State.setDx_freeChunks (s : State) (i : InstId) (d : Destuffer) :
    (s.setDx i d).freeChunks = s.freeChunks := rfl
@[simp] theorem State.setDx_sampleQueue (s : State) (i : InstId) (d : Destuffer) :
    (s.setDx i d).sampleQueue = s.sampleQueue := rfl
@[simp] theorem State.setDx_alphaTo (s : State) (i : InstId) (d : Destuffer) :
    (s.setDx i d).alphaTo = s.alphaTo := rfl
@[simp] theorem State.setDx_indexOf (s : State) (i : InstId) (d : Destuffer) :
    (s.setDx i d).indexOf = s.indexOf := rfl
@[simp] theorem State.setDx_genpoly16 (s : State) (i : InstId) (d : Destuffer) :
    (s.setDx i d).genpoly16 = s.genpoly16 := rfl
@[simp] theorem State.setDx_genpoly32 (s : State) (i : InstId) (d : Destuffer) :
    (s.setDx i d).genpoly32 = s.genpoly32 := rfl
@[simp] theorem State.setDx_genpoly64 (s : State) (i : InstId) (d : Destuffer) :
    (s.setDx i d).genpoly64 = s.genpoly64 := rfl
@[simp] theorem State.setDx_inputs (s : State) (i : InstId) (d : Destuffer) :
    (s.setDx i d).inputs = s.inputs := rfl
@[simp] theorem State.setDx_busData (s : State) (i : InstId) (d : Destuffer) :
    (s.setDx i d).busData = s.busData := rfl

/-! ## State.clear -/

@[simp] theorem State.clear_status (s : State) (h : Handle) :
    (s.clear h).status = s.status := rfl
@[simp] theorem State.clear_value0 (s : State) (h : Handle) :
    (s.clear h).value0 = s.value0 := rfl
@[simp] theorem State.clear_value1 (s : State) (h : Handle) :
    (s.clear h).value1 = s.value1 := rfl
@[simp] theorem State.clear_initDone (s : State) (h : Handle) :
    (s.clear h).initDone = s.initDone := rfl
@[simp] theorem State.clear_fatal (s : State) (h : Handle) :
    (s.clear h).fatal = s.fatal := rfl
@[simp] theorem State.clear_configured (s : State) (h : Handle) :
    (s.clear h).configured = s.configured := rfl
@[simp] theorem State.clear_running (s : State) (h : Handle) :
    (s.clear h).running = s.running := rfl
@[simp] theorem State.clear_twist (s : State) (h : Handle) :
    (s.clear h).twist = s.twist := rfl
@[simp] theorem State.clear_blockCounter (s : State) (h : Handle) :
    (s.clear h).blockCounter = s.blockCounter := rfl
@[simp] theorem State.clear_lastBlockCounter (s : State) (h : Handle) :
    (s.clear h).lastBlockCounter = s.lastBlockCounter := rfl
@[simp] theorem State.clear_lastFcs (s : State) (h : Handle) :
    (s.clear h).lastFcs = s.lastFcs := rfl
@[simp] theorem State.clear_rxDropCount (s : State) (h : Handle) :
    (s.clear h).rxDropCount = s.rxDropCount := rfl
@[simp] theorem State.clear_sampleDropCount (s : State) (h : Handle) :
    (s.clear h).sampleDropCount = s.sampleDropCount := rfl
@[simp] theorem State.clear_pfHist (s : State) (h : Handle) :
    (s.clear h).pfHist = s.pfHist := rfl
@[simp] theorem State.clear_deCoef (s : State) (h : Handle) :
    (s.clear h).deCoef = s.deCoef := rfl
@[simp] theorem State.clear_deHist (s : State) (h : Handle) :
    (s.clear h).deHist = s.deHist := rfl
@[simp] theorem State.clear_core (s : State) (h : Handle) :
    (s.clear h).core = s.core := rfl
@[simp] theorem State.clear_dx (s : State) (h : Handle) :
    (s.clear h).dx = s.dx := rfl
@[simp] theorem State.clear_slots (s : State) (h : Handle) :
    (s.clear h).slots = s.slots.set h { Slot.reset with owner := s.slots[h].owner } := rfl
@[simp] theorem State.clear_free (s : State) (h : Handle) :
    (s.clear h).free = s.free := rfl
@[simp] theorem State.clear_freeChunks (s : State) (h : Handle) :
    (s.clear h).freeChunks = s.freeChunks + chunks (s.octets h).length := rfl
@[simp] theorem State.clear_sampleQueue (s : State) (h : Handle) :
    (s.clear h).sampleQueue = s.sampleQueue := rfl
@[simp] theorem State.clear_alphaTo (s : State) (h : Handle) :
    (s.clear h).alphaTo = s.alphaTo := rfl
@[simp] theorem State.clear_indexOf (s : State) (h : Handle) :
    (s.clear h).indexOf = s.indexOf := rfl
@[simp] theorem State.clear_genpoly16 (s : State) (h : Handle) :
    (s.clear h).genpoly16 = s.genpoly16 := rfl
@[simp] theorem State.clear_genpoly32 (s : State) (h : Handle) :
    (s.clear h).genpoly32 = s.genpoly32 := rfl
@[simp] theorem State.clear_genpoly64 (s : State) (h : Handle) :
    (s.clear h).genpoly64 = s.genpoly64 := rfl
@[simp] theorem State.clear_inputs (s : State) (h : Handle) :
    (s.clear h).inputs = s.inputs := rfl
@[simp] theorem State.clear_busData (s : State) (h : Handle) :
    (s.clear h).busData = s.busData := rfl

/-! ## State.poolRelease -/

@[simp] theorem State.poolRelease_status (s : State) (h : Handle) :
    (s.poolRelease h).status = s.status := by
  simp [State.poolRelease]
@[simp] theorem State.poolRelease_value0 (s : State) (h : Handle) :
    (s.poolRelease h).value0 = s.value0 := by
  simp [State.poolRelease]
@[simp] theorem State.poolRelease_value1 (s : State) (h : Handle) :
    (s.poolRelease h).value1 = s.value1 := by
  simp [State.poolRelease]
@[simp] theorem State.poolRelease_initDone (s : State) (h : Handle) :
    (s.poolRelease h).initDone = s.initDone := by
  simp [State.poolRelease]
@[simp] theorem State.poolRelease_fatal (s : State) (h : Handle) :
    (s.poolRelease h).fatal = s.fatal := by
  simp [State.poolRelease]
@[simp] theorem State.poolRelease_configured (s : State) (h : Handle) :
    (s.poolRelease h).configured = s.configured := by
  simp [State.poolRelease]
@[simp] theorem State.poolRelease_running (s : State) (h : Handle) :
    (s.poolRelease h).running = s.running := by
  simp [State.poolRelease]
@[simp] theorem State.poolRelease_twist (s : State) (h : Handle) :
    (s.poolRelease h).twist = s.twist := by
  simp [State.poolRelease]
@[simp] theorem State.poolRelease_blockCounter (s : State) (h : Handle) :
    (s.poolRelease h).blockCounter = s.blockCounter := by
  simp [State.poolRelease]
@[simp] theorem State.poolRelease_lastBlockCounter (s : State) (h : Handle) :
    (s.poolRelease h).lastBlockCounter = s.lastBlockCounter := by
  simp [State.poolRelease]
@[simp] theorem State.poolRelease_lastFcs (s : State) (h : Handle) :
    (s.poolRelease h).lastFcs = s.lastFcs := by
  simp [State.poolRelease]
@[simp] theorem State.poolRelease_rxDropCount (s : State) (h : Handle) :
    (s.poolRelease h).rxDropCount = s.rxDropCount := by
  simp [State.poolRelease]
@[simp] theorem State.poolRelease_sampleDropCount (s : State) (h : Handle) :
    (s.poolRelease h).sampleDropCount = s.sampleDropCount := by
  simp [State.poolRelease]
@[simp] theorem State.poolRelease_pfHist (s : State) (h : Handle) :
    (s.poolRelease h).pfHist = s.pfHist := by
  simp [State.poolRelease]
@[simp] theorem State.poolRelease_deCoef (s : State) (h : Handle) :
    (s.poolRelease h).deCoef = s.deCoef := by
  simp [State.poolRelease]
@[simp] theorem State.poolRelease_deHist (s : State) (h : Handle) :
    (s.poolRelease h).deHist = s.deHist := by
  simp [State.poolRelease]
@[simp] theorem State.poolRelease_core (s : State) (h : Handle) :
    (s.poolRelease h).core = s.core := by
  simp [State.poolRelease]
@[simp] theorem State.poolRelease_dx (s : State) (h : Handle) :
    (s.poolRelease h).dx = s.dx := by
  simp [State.poolRelease]
@[simp] theorem State.poolRelease_free (s : State) (h : Handle) :
    (s.poolRelease h).free = h :: s.free := by
  simp [State.poolRelease]
@[simp] theorem State.poolRelease_freeChunks (s : State) (h : Handle) :
    (s.poolRelease h).freeChunks = s.freeChunks + chunks (s.octets h).length := by
  simp [State.poolRelease]
@[simp] theorem State.poolRelease_sampleQueue (s : State) (h : Handle) :
    (s.poolRelease h).sampleQueue = s.sampleQueue := by
  simp [State.poolRelease]
@[simp] theorem State.poolRelease_alphaTo (s : State) (h : Handle) :
    (s.poolRelease h).alphaTo = s.alphaTo := by
  simp [State.poolRelease]
@[simp] theorem State.poolRelease_indexOf (s : State) (h : Handle) :
    (s.poolRelease h).indexOf = s.indexOf := by
  simp [State.poolRelease]
@[simp] theorem State.poolRelease_genpoly16 (s : State) (h : Handle) :
    (s.poolRelease h).genpoly16 = s.genpoly16 := by
  simp [State.poolRelease]
@[simp] theorem State.poolRelease_genpoly32 (s : State) (h : Handle) :
    (s.poolRelease h).genpoly32 = s.genpoly32 := by
  simp [State.poolRelease]
@[simp] theorem State.poolRelease_genpoly64 (s : State) (h : Handle) :
    (s.poolRelease h).genpoly64 = s.genpoly64 := by
  simp [State.poolRelease]
@[simp] theorem State.poolRelease_inputs (s : State) (h : Handle) :
    (s.poolRelease h).inputs = s.inputs := by
  simp [State.poolRelease]
@[simp] theorem State.poolRelease_busData (s : State) (h : Handle) :
    (s.poolRelease h).busData = s.busData := by
  simp [State.poolRelease]

/-! ## State.dropRx -/

@[simp] theorem State.dropRx_status (s : State) (i : InstId) :
    (s.dropRx i).status = s.status := rfl
@[simp] theorem State.dropRx_value0 (s : State) (i : InstId) :
    (s.dropRx i).value0 = s.value0 := rfl
@[simp] theorem State.dropRx_value1 (s : State) (i : InstId) :
    (s.dropRx i).value1 = s.value1 := rfl
@[simp] theorem State.dropRx_initDone (s : State) (i : InstId) :
    (s.dropRx i).initDone = s.initDone := rfl
@[simp] theorem State.dropRx_fatal (s : State) (i : InstId) :
    (s.dropRx i).fatal = s.fatal := rfl
@[simp] theorem State.dropRx_configured (s : State) (i : InstId) :
    (s.dropRx i).configured = s.configured := rfl
@[simp] theorem State.dropRx_running (s : State) (i : InstId) :
    (s.dropRx i).running = s.running := rfl
@[simp] theorem State.dropRx_twist (s : State) (i : InstId) :
    (s.dropRx i).twist = s.twist := rfl
@[simp] theorem State.dropRx_blockCounter (s : State) (i : InstId) :
    (s.dropRx i).blockCounter = s.blockCounter := rfl
@[simp] theorem State.dropRx_lastBlockCounter (s : State) (i : InstId) :
    (s.dropRx i).lastBlockCounter = s.lastBlockCounter := rfl
@[simp] theorem State.dropRx_lastFcs (s : State) (i : InstId) :
    (s.dropRx i).lastFcs = s.lastFcs := rfl
@[simp] theorem State.dropRx_rxDropCount (s : State) (i : InstId) :
    (s.dropRx i).rxDropCount = s.rxDropCount + 1 := rfl
@[simp] theorem State.dropRx_sampleDropCount (s : State) (i : InstId) :
    (s.dropRx i).sampleDropCount = s.sampleDropCount := rfl
@[simp] theorem State.dropRx_pfHist (s : State) (i : InstId) :
    (s.dropRx i).pfHist = s.pfHist := rfl
@[simp] theorem State.dropRx_deCoef (s : State) (i : InstId) :
    (s.dropRx i).deCoef = s.deCoef := rfl
@[simp] theorem State.dropRx_deHist (s : State) (i : InstId) :
    (s.dropRx i).deHist = s.deHist := rfl
@[simp] theorem State.dropRx_core (s : State) (i : InstId) :
    (s.dropRx i).core = s.core := rfl
@[simp] theorem State.dropRx_dx (s : State) (i : InstId) :
    (s.dropRx i).dx = s.dx.set i { s.dx[i] with olen := none } := rfl
@[simp] theorem State.dropRx_slots (s : State) (i : InstId) :
    (s.dropRx i).slots = s.slots := rfl
@[simp] theorem State.dropRx_free (s : State) (i : InstId) :
    (s.dropRx i).free = s.free := rfl
@[simp] theorem State.dropRx_freeChunks (s : State) (i : InstId) :
    (s.dropRx i).freeChunks = s.freeChunks := rfl
@[simp] theorem State.dropRx_sampleQueue (s : State) (i : InstId) :
    (s.dropRx i).sampleQueue = s.sampleQueue := rfl
@[simp] theorem State.dropRx_alphaTo (s : State) (i : InstId) :
    (s.dropRx i).alphaTo = s.alphaTo := rfl
@[simp] theorem State.dropRx_indexOf (s : State) (i : InstId) :
    (s.dropRx i).indexOf = s.indexOf := rfl
@[simp] theorem State.dropRx_genpoly16 (s : State) (i : InstId) :
    (s.dropRx i).genpoly16 = s.genpoly16 := rfl
@[simp] theorem State.dropRx_genpoly32 (s : State) (i : InstId) :
    (s.dropRx i).genpoly32 = s.genpoly32 := rfl
@[simp] theorem State.dropRx_genpoly64 (s : State) (i : InstId) :
    (s.dropRx i).genpoly64 = s.genpoly64 := rfl
@[simp] theorem State.dropRx_inputs (s : State) (i : InstId) :
    (s.dropRx i).inputs = s.inputs := rfl
@[simp] theorem State.dropRx_busData (s : State) (i : InstId) :
    (s.dropRx i).busData = s.busData := rfl

/-! ## State.parseFcs -/

/-- FCS parsing is one slot update (R164). -/
theorem State.parseFcs_eq (s : State) (h : Handle) :
    s.parseFcs h = s.setSlot h
      { s.slots[h] with fcs := receivedFcs (s.octets h), crc := residue (s.octets h), complete := true } := by
  unfold State.parseFcs
  rfl

/-! ## Reading back -/

@[simp] theorem slots_set_self (v : Vector Slot 48) (h : Handle) (x : Slot) : (v.set h x)[h] = x := by simp

theorem slots_set_ne (v : Vector Slot 48) (h g : Handle) (x : Slot) (hne : g ≠ h) : (v.set h x)[g] = v[g] := by
  have : h.val ≠ g.val := fun e => hne (Fin.ext e.symm)
  simp [this]

@[simp] theorem dx_set_self (v : Vector Destuffer 3) (i : InstId) (d : Destuffer) : (v.set i d)[i] = d := by simp

theorem dx_set_ne (v : Vector Destuffer 3) (i j : InstId) (d : Destuffer) (hne : j ≠ i) : (v.set i d)[j] = v[j] := by
  have : i.val ≠ j.val := fun e => hne (Fin.ext e.symm)
  simp [this]

/-- A released slot is at its reset value. -/
@[simp] theorem State.poolRelease_slots (s : State) (h : Handle) :
    (s.poolRelease h).slots = s.slots.set h Slot.reset := by
  simp [State.poolRelease, Slot.reset]

end Sys2Proof.Machine
end

