-- ==== Sys2Proof/Laws/Ops.lean ====
section
/-!
SUPPORT. One lemma per shared operation: everything it can do.
-/

namespace Sys2Proof.Machine

open Sys2Proof.Safety

/-- A raise changes the response registers only (R243). -/
theorem raised_eq_responded (s : State) (c : Status) : s.raised c = responded s c.code.toNat 0 0 := by
  cases c <;> rfl

/-- A command either fails a common check or runs its rule (R240). -/
theorem command_next {g : Gate} {rule : State → Reply} {s t : State} (h : command g rule s = .next t) :
    (∃ c, g.check s = some c ∧ t = s.raised c) ∨ (g.check s = none ∧ t = (rule s).finish s) := by
  unfold command at h
  split at h
  · next c hc => exact .inl ⟨c, hc, by cases h; rfl⟩
  · next hc => exact .inr ⟨hc, by cases h; rfl⟩

/-- Every command answers a next state. -/
theorem command_answers (g : Gate) (rule : State → Reply) (s : State) : ∃ t, command g rule s = .next t := by
  unfold command
  split <;> exact ⟨_, rfl⟩

/-- Past the common checks a command is its rule. -/
theorem command_of_ready {g : Gate} {rule : State → Reply} {s : State} (h : Ready s) :
    command g rule s = .next ((rule s).finish s) := by
  cases g <;> simp [command, Gate.check, h.1, h.2]

/-- The handle check succeeds exactly on a host frame (R169). -/
theorem hostHandle_eq_some {h : Nat} {s : State} {f : Handle} : hostHandle h s = some f ↔ HostFrame s h f := by
  unfold hostHandle HostFrame
  constructor
  · intro hh
    split at hh
    · split at hh
      · next ho => cases hh; exact ⟨rfl, ho⟩
      · cases hh
    · cases hh
  · rintro ⟨rfl, ho⟩
    rw [dif_pos f.isLt]
    exact if_pos ho

/-- The handle check fails exactly on a bad handle (R169). -/
theorem hostHandle_eq_none {h : Nat} {s : State} : hostHandle h s = none ↔ BadHandle s h := by
  unfold hostHandle BadHandle
  constructor
  · intro hh
    split at hh
    · next hlt =>
      split at hh
      · cases hh
      · next ho => exact .inr ⟨⟨h, hlt⟩, rfl, ho⟩
    · next hlt => exact .inl (by omega)
  · rintro (hge | ⟨f, rfl, ho⟩)
    · rw [dif_neg (by omega)]
    · rw [dif_pos f.isLt]
      exact if_neg ho

theorem onFrame_of_host {h : Nat} {rule : Handle → State → Reply} {s : State} {f : Handle} (hf : HostFrame s h f) :
    onFrame h rule s = rule f s := by
  simp [onFrame, hostHandle_eq_some.mpr hf]

theorem onFrame_of_bad {h : Nat} {rule : Handle → State → Reply} {s : State} (hb : BadHandle s h) :
    onFrame h rule s = .raised .badHandle := by
  simp [onFrame, hostHandle_eq_none.mpr hb]

/-- PoolAcquire takes the top of the free list and nothing else (R155). -/
theorem poolAcquire_eq_some {s t : State} {o : Owner} {h : Handle} (ha : s.poolAcquire o = some (h, t)) :
    s.free = h :: t.free ∧
      t = { s with free := t.free, slots := s.slots.set h { s.slots[h] with owner := o } } := by
  unfold State.poolAcquire at ha
  split at ha
  · cases ha
  · next h' rest hfree => cases ha; exact ⟨hfree, rfl⟩

theorem poolAcquire_eq_none {s : State} {o : Owner} : s.poolAcquire o = none ↔ s.free = [] := by
  unfold State.poolAcquire
  split <;> simp_all

/-- FrameAppend adds one octet to one slot and draws a chunk when the length is a multiple of CHUNK_SIZE (R157). -/
theorem frameAppend_eq_some {s t : State} {h : Handle} {b : Byte} (ha : s.frameAppend h b = some t) :
    ((s.octets h).length % Config.chunkSize = 0 → s.freeChunks ≠ 0) ∧
      t = { s with
        slots := s.slots.set h { s.slots[h] with octets := s.octets h ++ [b] }
        freeChunks := s.freeChunks - (if (s.octets h).length % Config.chunkSize = 0 then 1 else 0) } := by
  simp only [State.frameAppend] at ha
  split at ha
  · next hz =>
    replace hz : (s.octets h).length % Config.chunkSize = 0 := hz
    split at ha
    · cases ha
    · next hc => cases ha; exact ⟨fun _ => hc, by rw [if_pos hz]; rfl⟩
  · next hz =>
    replace hz : ¬ (s.octets h).length % Config.chunkSize = 0 := hz
    cases ha; exact ⟨fun h0 => absurd h0 hz, by rw [if_neg hz]; rfl⟩

theorem frameAppend_eq_none {s : State} {h : Handle} {b : Byte} :
    s.frameAppend h b = none ↔ (s.octets h).length % Config.chunkSize = 0 ∧ s.freeChunks = 0 := by
  unfold State.frameAppend
  simp only [State.octets]
  split <;> simp_all

/-- FrameAppendN adds all octets to one slot or nothing (R158). -/
theorem frameAppendN_eq_some {s t : State} {h : Handle} {bs : List Byte} (ha : s.frameAppendN h bs = some t) :
    chunks ((s.octets h).length + bs.length) - chunks (s.octets h).length ≤ s.freeChunks ∧
      t = { s with
        slots := s.slots.set h { s.slots[h] with octets := s.octets h ++ bs }
        freeChunks := s.freeChunks - (chunks ((s.octets h).length + bs.length) - chunks (s.octets h).length) } := by
  simp only [State.frameAppendN] at ha
  simp only [State.octets]
  split at ha
  · cases ha
  · next hc => cases ha; exact ⟨by omega, rfl⟩

theorem frameAppendN_eq_none {s : State} {h : Handle} {bs : List Byte} :
    s.frameAppendN h bs = none ↔
      s.freeChunks < chunks ((s.octets h).length + bs.length) - chunks (s.octets h).length := by
  unfold State.frameAppendN
  simp only [State.octets]
  split <;> simp_all

/-- A delivery is ignored, dropped or queued (R250). -/
theorem deliver_cases (s : State) (x : List Sample) :
    ((s.fatal = true ∨ s.running = false) ∧ s.deliver x = s) ∨
      (s.fatal = false ∧ s.running = true ∧ s.sampleQueue.length = Config.sbqDepth ∧
        s.deliver x = { s with sampleDropCount := s.sampleDropCount + 1 }) ∨
      (s.fatal = false ∧ s.running = true ∧ s.sampleQueue.length ≠ Config.sbqDepth ∧
        s.deliver x = { s with sampleQueue := s.sampleQueue ++ [x] }) := by
  cases hf : s.fatal <;> cases hr : s.running <;> simp [State.deliver, hf, hr]
  by_cases hq : s.sampleQueue.length = Config.sbqDepth <;> simp [hq]

/-- A step stands still or performs the oldest action. -/
theorem step_cases (s : State) :
    (s.inputs = [] ∧ step s = .next s) ∨
      ∃ a rest, s.inputs = a :: rest ∧ step s = perform a { s with inputs := rest } := by
  unfold step nextAction
  cases h : s.inputs with
  | nil => exact .inl ⟨rfl, rfl⟩
  | cons a rest => exact .inr ⟨a, rest, rfl, rfl⟩

/-- An address from REG_BASE on is its offset, below 16 (R68). -/
theorem windowOffset_add {off : Nat} (h : off < 16) : windowOffset (Config.regBase + off) = some off := by
  unfold windowOffset
  rw [if_pos (by omega), Nat.add_sub_cancel_left]

/-- Where an access at an address of the window lands (R68, R70). -/
theorem accessAt_add {off : Nat} (h : off < 16) (n : Nat) : accessAt (Config.regBase + off) n = windowAccess off n := by
  unfold accessAt
  rw [windowOffset_add h]

/-- An access that touches no byte of the window is outside (R68, R69). -/
theorem accessAt_outside {a n : Nat}
    (h : (a < Config.regBase ∧ a + n ≤ Config.regBase) ∨ Config.regBase + 16 ≤ a) : accessAt a n = .outside := by
  unfold accessAt windowOffset
  rw [if_neg (by omega)]
  exact if_neg (by omega)

/-- An access that begins below the window and reaches into it is not defined (R76). -/
theorem accessAt_straddling {a n : Nat} (h : a < Config.regBase) (hn : Config.regBase < a + n) :
    accessAt a n = .undefined := by
  unfold accessAt windowOffset
  rw [if_neg (by omega)]
  exact if_pos ⟨h, hn⟩

/-- An offset's access lands on one of the four registers, as 4 bytes at its offset, or is not defined (R70, R76). -/
theorem windowAccess_cases (off n : Nat) :
    (n = 4 ∧ (off = 0x0 ∧ windowAccess off n = .register .cmd ∨ off = 0x4 ∧ windowAccess off n = .register .status ∨
      off = 0x8 ∧ windowAccess off n = .register .value0 ∨ off = 0xC ∧ windowAccess off n = .register .value1)) ∨
    ((∀ k, k < 4 → ¬ (off = 4 * k ∧ n = 4)) ∧ windowAccess off n = .undefined) := by
  unfold windowAccess
  split
  · exact .inr ⟨fun k _ h => by omega, rfl⟩
  · split <;> simp_all
    omega

/-- The host's write of a word to CMD at its address is the command issued (R21, R240; log entry 16). -/
theorem perform_write_cmd (w : Word) (s : State) : perform (.write Config.regBase 4 w) s = perform (.command w) s := by
  have h := accessAt_add (off := 0) (by decide) 4
  simp only [Nat.add_zero] at h
  simp [perform, h, windowAccess]

/-- An empty frame holds no chunk (R36). -/
@[simp] theorem chunks_zero : chunks 0 = 0 := by
  have : 0 < Config.chunkSize := by unfold Config.chunkSize; omega
  unfold chunks
  exact Nat.div_eq_of_lt (by omega)

/-- Clear empties the slot, keeps its owner and returns its chunks (R153). -/
theorem clear_eq (s : State) (h : Handle) :
    s.clear h = { s with
      slots := s.slots.set h { Slot.reset with owner := s.slots[h].owner }
      freeChunks := s.freeChunks + chunks (s.octets h).length } := rfl

/-- PoolRelease puts the slot at reset, its handle on top and its chunks back (R156). -/
theorem poolRelease_eq (s : State) (h : Handle) :
    s.poolRelease h = { s with
      slots := s.slots.set h Slot.reset
      free := h :: s.free
      freeChunks := s.freeChunks + chunks (s.octets h).length } := by
  simp [State.poolRelease, State.clear, State.setOwner, State.setSlot, Slot.reset]

/-- AddFcs appends the two octets of the CRC and marks the frame, or does nothing (R165). -/
theorem addFcs_eq_some {s t : State} {h : Handle} (ha : s.addFcs h = some t) :
    chunks ((s.octets h).length + 2) - chunks (s.octets h).length ≤ s.freeChunks ∧
      t = { s with
        slots := s.slots.set h { s.slots[h] with
          octets := s.octets h ++ fcsOctets (crc16 (s.octets h))
          fcs := crc16 (s.octets h)
          crc := okSentinel
          complete := true }
        freeChunks := s.freeChunks - (chunks ((s.octets h).length + 2) - chunks (s.octets h).length) } := by
  obtain ⟨u, hu, rfl⟩ := Option.map_eq_some_iff.mp ha
  obtain ⟨hle, rfl⟩ := frameAppendN_eq_some hu
  refine ⟨by simpa [fcsOctets] using hle, ?_⟩
  simp [State.setSlot, fcsOctets]

theorem addFcs_eq_none {s : State} {h : Handle} :
    s.addFcs h = none ↔ s.freeChunks < chunks ((s.octets h).length + 2) - chunks (s.octets h).length := by
  simp [State.addFcs, frameAppendN_eq_none, fcsOctets]

/-- QueuePop takes the oldest block (R64). -/
theorem queuePop_eq_some {s t : State} {x : List Sample} (hq : s.queuePop = some (x, t)) :
    s.sampleQueue = x :: t.sampleQueue ∧ t = { s with sampleQueue := t.sampleQueue } := by
  unfold State.queuePop at hq
  split at hq
  · cases hq
  · next y rest h => cases hq; exact ⟨h, rfl⟩

/-! ## What reception can change: the destuffers, the pool and the drop counter, nothing else -/

/-- `t` differs from `s` only where reception writes (R145, Writes). -/
abbrev OnlyReception (s t : State) : Prop :=
  t = { s with dx := t.dx, slots := t.slots, free := t.free, freeChunks := t.freeChunks, rxDropCount := t.rxDropCount }

theorem OnlyReception.trans {s t u : State} (h1 : OnlyReception s t) (h2 : OnlyReception t u) : OnlyReception s u := by
  unfold OnlyReception at *
  rw [h1] at h2
  exact h2

theorem setDx_onlyReception (s : State) (i : InstId) (d : Destuffer) : OnlyReception s (s.setDx i d) := rfl
theorem setSlot_onlyReception (s : State) (h : Handle) (v : Slot) : OnlyReception s (s.setSlot h v) := rfl
theorem dropRx_onlyReception (s : State) (i : InstId) : OnlyReception s (s.dropRx i) := rfl

theorem poolRelease_onlyReception (s : State) (h : Handle) : OnlyReception s (s.poolRelease h) := by
  rw [poolRelease_eq]

theorem poolAcquire_onlyReception {s t : State} {o : Owner} {h : Handle} (ha : s.poolAcquire o = some (h, t)) :
    OnlyReception s t := by
  rw [(poolAcquire_eq_some ha).2]

theorem storeRxOctet_onlyReception (s : State) (i : InstId) (h : Handle) (o : Byte) :
    OnlyReception s (s.storeRxOctet i h o) := by
  unfold State.storeRxOctet
  split
  · next t ht => rw [(frameAppend_eq_some ht).2]
  · exact (poolRelease_onlyReception s h).trans ((setDx_onlyReception _ _ _).trans (dropRx_onlyReception _ _))

theorem rxOctet_onlyReception (s : State) (i : InstId) (o : Byte) : OnlyReception s (s.rxOctet i o) := by
  unfold State.rxOctet
  split
  · exact storeRxOctet_onlyReception _ _ _ _
  · split
    · exact dropRx_onlyReception _ _
    · next ha =>
      exact (poolAcquire_onlyReception ha).trans
        ((setDx_onlyReception _ _ _).trans (storeRxOctet_onlyReception _ _ _ _))

theorem dataBit_onlyReception (s : State) (i : InstId) (v : Bool) : OnlyReception s (s.dataBit i v) := by
  unfold State.dataBit
  split
  · rfl
  · dsimp only
    split
    · exact (setDx_onlyReception _ _ _).trans (rxOctet_onlyReception _ _ _)
    · exact setDx_onlyReception _ _ _

theorem closeRx_onlyReception (s : State) (i : InstId) : OnlyReception s (s.closeRx i).2 := by
  unfold State.closeRx
  split
  · rfl
  · split
    · dsimp only
      rw [State.parseFcs_eq]
      split
      · exact (setSlot_onlyReception _ _ _).trans (setSlot_onlyReception _ _ _)
      · exact (setSlot_onlyReception _ _ _).trans (poolRelease_onlyReception _ _)
    · exact poolRelease_onlyReception _ _

theorem closeFrame_onlyReception (s : State) (i : InstId) : OnlyReception s (s.closeFrame i).2 :=
  (closeRx_onlyReception s i).trans (setDx_onlyReception _ _ _)

theorem abort_onlyReception (s : State) (i : InstId) : OnlyReception s (s.abort i) := by
  unfold State.abort
  dsimp only
  split
  · exact (poolRelease_onlyReception _ _).trans (setDx_onlyReception _ _ _)
  · exact setDx_onlyReception _ _ _

/-- One line bit changes only what reception writes (R175). -/
theorem destuffBit_onlyReception (s : State) (i : InstId) (b : Bool) : OnlyReception s (s.destuffBit i b).2 := by
  unfold State.destuffBit
  dsimp only
  split
  · split
    · exact (setDx_onlyReception _ _ _).trans (abort_onlyReception _ _)
    · exact (setDx_onlyReception _ _ _).trans (dataBit_onlyReception _ _ _)
  · split
    · exact (setDx_onlyReception _ _ _).trans (closeFrame_onlyReception _ _)
    · split
      · exact setDx_onlyReception _ _ _
      · exact (setDx_onlyReception _ _ _).trans (dataBit_onlyReception _ _ _)

/-! ## What a block can change -/

/-- The pre-filter writes its history only (R121). -/
theorem prefilter_eq (x : List Sample) (s : State) :
    (s.prefilter x).2 = { s with pfHist := (s.prefilter x).2.pfHist } := by
  induction x generalizing s with
  | nil => rfl
  | cons v rest ih =>
    have h := ih { s with pfHist := (v :: s.pfHist).take (Config.pfTaps - 1) }
    simpa [State.prefilter] using h

/-- Arbitration of one candidate releases at most one slot and remembers an acceptance (R129-R131). -/
theorem arbitrate_cases (s : State) (h : Handle) (result : Option Handle) :
    (s.accepts h = true ∧ (s.arbitrate h result).1 = some h) ∨
      (s.accepts h = false ∧ s.arbitrate h result = (result, s.poolRelease h)) := by
  unfold State.arbitrate
  cases hacc : s.accepts h
  · exact .inr ⟨rfl, rfl⟩
  · exact .inl ⟨rfl, rfl⟩

end Sys2Proof.Machine
end

