-- ==== Sys2Proof/Laws/Bank.lean ====
section
/-!
SUPPORT. The bank's functions of a block, one sample or bit at a time, and that reception neither reads nor writes the
filters and the cores.
-/

namespace Sys2Proof.Machine

open Sys2Proof.Safety

/-! ## Data bits (R175, R176) -/

/-- A bit that is neither part of a flag or abort nor stuffed only counts, then is data. -/
theorem destuffBit_of_isDataBit {s : State} {i : InstId} {b : Bool} (h : IsDataBit s.dx[i].ones b) :
    s.destuffBit i b =
      (none, (s.setDx i { s.dx[i] with ones := if b then s.dx[i].ones + 1 else 0 }).dataBit i b) := by
  rcases h with ⟨rfl, h⟩ | ⟨rfl, h5, h6⟩
  · have hmin : min (s.dx[i].ones + 1) 7 = s.dx[i].ones + 1 := by omega
    simp only [State.destuffBit, if_true, hmin, if_neg (show ¬ s.dx[i].ones + 1 = 7 by omega)]
  · simp only [State.destuffBit, Bool.false_eq_true, if_false, if_neg h5, if_neg h6]

/-- With a chunk to spare where one is needed, storing an octet appends it. -/
theorem storeRxOctet_of_room {s : State} {i : InstId} {h : Handle} {o : Byte}
    (hroom : (s.octets h).length % Config.chunkSize = 0 → s.freeChunks ≠ 0) :
    s.storeRxOctet i h o = { s with
      slots := s.slots.set h { s.slots[h] with octets := s.octets h ++ [o] }
      freeChunks := s.freeChunks - (if (s.octets h).length % Config.chunkSize = 0 then 1 else 0) } := by
  unfold State.storeRxOctet
  split
  · next t ht => exact (frameAppend_eq_some ht).2
  · next hn => exact absurd (frameAppend_eq_none.mp hn).2 (hroom (frameAppend_eq_none.mp hn).1)

/-! ## Reception beside the filters and cores -/

/-- The state with other filter histories and core states. -/
def State.withFilters (s : State) (hist : Vector (List Sample) 3) (core : Vector Config.CoreState 3) : State :=
  { s with deHist := hist, core := core }

section
variable (s : State) (i : InstId) (hist : Vector (List Sample) 3) (core : Vector Config.CoreState 3)

theorem frameAppend_withFilters (h : Handle) (o : Byte) :
    (s.withFilters hist core).frameAppend h o = (s.frameAppend h o).map (·.withFilters hist core) := by
  by_cases h1 : s.slots[h.val].octets.length % Config.chunkSize = 0 <;> by_cases h2 : s.freeChunks = 0 <;>
    simp [State.frameAppend, State.withFilters, State.setSlot, h1, h2]

theorem poolAcquire_withFilters (o : Owner) :
    (s.withFilters hist core).poolAcquire o =
      (s.poolAcquire o).map fun p => (p.1, p.2.withFilters hist core) := by
  unfold State.poolAcquire
  rw [show (s.withFilters hist core).free = s.free from rfl]
  cases s.free <;> rfl

theorem storeRxOctet_withFilters (h : Handle) (o : Byte) :
    (s.withFilters hist core).storeRxOctet i h o = (s.storeRxOctet i h o).withFilters hist core := by
  unfold State.storeRxOctet
  rw [frameAppend_withFilters]
  cases s.frameAppend h o <;> rfl

theorem rxOctet_withFilters (o : Byte) :
    (s.withFilters hist core).rxOctet i o = (s.rxOctet i o).withFilters hist core := by
  unfold State.rxOctet
  rw [show (s.withFilters hist core).dx[i] = s.dx[i] from rfl, poolAcquire_withFilters]
  cases s.dx[i].rx with
  | some h => exact storeRxOctet_withFilters s i hist core h o
  | none =>
    cases s.poolAcquire (.rx i) with
    | none => rfl
    | some p =>
      obtain ⟨h, t⟩ := p
      exact storeRxOctet_withFilters (t.setDx i { t.dx[i] with rx := some h }) i hist core h o

theorem dataBit_withFilters (v : Bool) :
    (s.withFilters hist core).dataBit i v = (s.dataBit i v).withFilters hist core := by
  unfold State.dataBit
  rw [show (s.withFilters hist core).dx[i] = s.dx[i] from rfl]
  cases s.dx[i].olen with
  | none => rfl
  | some n =>
    dsimp only
    split
    · exact rxOctet_withFilters (s.setDx i _) i hist core _
    · rfl

theorem closeRx_withFilters :
    (s.withFilters hist core).closeRx i = ((s.closeRx i).1, (s.closeRx i).2.withFilters hist core) := by
  unfold State.closeRx
  rw [show (s.withFilters hist core).dx[i] = s.dx[i] from rfl]
  cases s.dx[i].rx with
  | none => rfl
  | some h =>
    dsimp only
    rw [show (s.withFilters hist core).octets h = s.octets h from rfl]
    split
    · rw [show ((s.withFilters hist core).parseFcs h).frameOk h = (s.parseFcs h).frameOk h from rfl]
      cases (s.parseFcs h).frameOk h <;> rfl
    · rfl

theorem abort_withFilters : (s.withFilters hist core).abort i = (s.abort i).withFilters hist core := by
  unfold State.abort
  rw [show (s.withFilters hist core).dx[i] = s.dx[i] from rfl]
  cases s.dx[i].rx <;> rfl

/-- A line bit does the same whatever the filters and cores hold, and leaves them (R175). -/
theorem destuffBit_withFilters (b : Bool) :
    (s.withFilters hist core).destuffBit i b =
      ((s.destuffBit i b).1, (s.destuffBit i b).2.withFilters hist core) := by
  have hset : ∀ d, (s.withFilters hist core).setDx i d = (s.setDx i d).withFilters hist core := fun _ => rfl
  unfold State.destuffBit
  dsimp only
  rw [show (s.withFilters hist core).dx[i] = s.dx[i] from rfl]
  simp only [hset]
  cases b
  · simp only [Bool.false_eq_true, if_false]
    split
    · simp only [State.closeFrame, closeRx_withFilters]
      rfl
    · split
      · rfl
      · rw [dataBit_withFilters]
  · simp only [if_true]
    split
    · rw [abort_withFilters]
    · rw [dataBit_withFilters]

end

/-! ## One step of each function of a block -/

/-- The first bit of a run through the destuffer, then the rest. -/
theorem destuffRun_cons (s : State) (i : InstId) (b : Bool) (bs : List Bool) :
    destuffRun s i (b :: bs) =
      ((s.destuffBit i b).1.toList ++ (destuffRun (s.destuffBit i b).2 i bs).1,
        (destuffRun (s.destuffBit i b).2 i bs).2) := by
  have collect : ∀ (bs : List Bool) (cs : List Handle) (t : State),
      bs.foldl (fun r b => (r.1 ++ (r.2.destuffBit i b).1.toList, (r.2.destuffBit i b).2)) (cs, t) =
        (cs ++ (destuffRun t i bs).1, (destuffRun t i bs).2) := by
    intro bs
    induction bs with
    | nil => intro cs t; simp [destuffRun]
    | cons b bs ih =>
      intro cs t
      simp only [List.foldl, destuffRun]
      rw [ih, ih]
      simp
  simp only [destuffRun, List.foldl]
  rw [collect]
  simp [destuffRun]

/-- The first sample of a core's run, then the rest. -/
theorem coreRun_cons (c : Config.CoreState) (d : Sample) (ds : List Sample) :
    coreRun c (d :: ds) =
      ((Config.coreStep c d).2.toList ++ (coreRun (Config.coreStep c d).1 ds).1,
        (coreRun (Config.coreStep c d).1 ds).2) := by
  have collect : ∀ (ds : List Sample) (bs : List Bool) (c : Config.CoreState),
      ds.foldl (fun r d => (r.1 ++ (Config.coreStep r.2 d).2.toList, (Config.coreStep r.2 d).1)) (bs, c) =
        (bs ++ (coreRun c ds).1, (coreRun c ds).2) := by
    intro ds
    induction ds with
    | nil => intro bs c; simp [coreRun]
    | cons d ds ih =>
      intro bs c
      simp only [List.foldl, coreRun]
      rw [ih, ih]
      simp
  simp only [coreRun, List.foldl]
  rw [collect]
  simp [coreRun]

/-- Inputs older than a filter's length do not matter to a window that holds a newer one. -/
theorem window_append (y hist : List Sample) (v : Sample) {taps k : Nat} (hk : k ≤ taps)
    (hy : 0 < y.length ∨ k ≤ taps - 1) :
    (y ++ v :: hist).take k = (y ++ (v :: hist).take (taps - 1)).take k := by
  rw [List.take_append, List.take_append, List.take_take]
  congr 2
  rcases hy with h | h <;> omega

/-- The first output of an FIR stage, then the rest from the next history (R121, R122). -/
theorem firOutputs_cons (coef hist : List Sample) {taps : Nat} (v : Sample) (x : List Sample) (ht : 0 < taps)
    (hl : hist.length = taps - 1) :
    firOutputs coef hist taps (v :: x) =
      Config.firArith coef (v :: hist) :: firOutputs coef ((v :: hist).take (taps - 1)) taps x := by
  unfold firOutputs
  rw [List.length_cons, List.range_succ_eq_map, List.map_cons, List.map_map]
  congr 1
  · congr 1
    simp
    omega
  · apply List.map_congr_left
    intro n hn
    simp only [Function.comp, List.take_succ_cons, List.reverse_cons, List.append_assoc]
    congr 1
    exact window_append _ _ _ (le_refl _) (.inl (by have := List.mem_range.mp hn; simp; omega))

theorem firHistory_cons (hist : List Sample) {taps : Nat} (v : Sample) (x : List Sample) :
    firHistory hist taps (v :: x) = firHistory ((v :: hist).take (taps - 1)) taps x := by
  unfold firHistory
  simp only [List.reverse_cons, List.append_assoc]
  exact window_append _ _ _ (by omega) (.inr (le_refl _))

/-- The model's arbitration of a list of candidates is `arbitrated`. -/
theorem arbitrateAll_eq_arbitrated (cands : List Handle) (s : State) (result : Option Handle) :
    s.arbitrateAll cands result = arbitrated (cands, s) result := by
  induction cands generalizing s result with
  | nil => rfl
  | cons h rest ih => simp only [State.arbitrateAll, ih, arbitrated, List.foldl]

end Sys2Proof.Machine
end

