-- ==== Sys2Proof/Laws/PerInstr.lean ====
section
/-!
SUPPORT. Per-command lemmas: the encoding of a well-formed command has the shape of its row (spec/30_encoding.md R86, R96).
-/

namespace Sys2Proof.Laws

theorem and_or_right (a b m : Word) : (a ||| b) &&& m = (a &&& m) ||| (b &&& m) := by
  apply BitVec.eq_of_getLsbD_eq
  intro j hj
  simp [Bool.and_or_distrib_right]

/-- A field that fits its place is clear in every mask that is clear there. -/
theorem place_and_mask (v pos k : Nat) (m : Word) (hv : v < 2 ^ k)
    (hm : ∀ j, j < k → m.getLsbD (pos + j) = false) : place v pos &&& m = 0 := by
  apply BitVec.eq_of_getLsbD_eq
  intro j hj
  rw [BitVec.getLsbD_and, show (0 : Word).getLsbD j = false by simp, Bool.and_eq_false_iff]
  by_cases h1 : j < pos
  · left; simp [place, BitVec.getLsbD_shiftLeft, h1]
  · by_cases h2 : j - pos < k
    · right
      have := hm (j - pos) h2
      rwa [Nat.add_sub_cancel' (by omega)] at this
    · left
      have : v.testBit (j - pos) = false :=
        Nat.testBit_lt_two_pow (lt_of_lt_of_le hv (Nat.pow_le_pow_right (by decide) (by omega)))
      simp only [place, BitVec.getLsbD_shiftLeft, BitVec.getLsbD_ofNat, this, Bool.and_false]

/-- Opcode and operands keep the shape when the operand bits are clear in the mask. -/
theorem shape_of_operands {op : Nat} {f : Format} {o : Word} (h1 : matchWord op &&& f.mask = matchWord op)
    (h2 : o &&& f.mask = 0) : (matchWord op ||| o) &&& f.mask = matchWord op := by
  rw [and_or_right, h1, h2]; simp

theorem or_operands {a b m : Word} (ha : a &&& m = 0) (hb : b &&& m = 0) : (a ||| b) &&& m = 0 := by
  rw [and_or_right, ha, hb]; simp

/-- An encoded well-formed command passes the shape test of its own row (R86, R96). -/
def EncodedShape.Statement (i : Instr) : Prop :=
  i.WellFormed → encode i &&& i.format.mask = matchWord i.opcode

theorem EncodedShape.nop : EncodedShape.Statement (.nop) := by
  intro _; decide

theorem EncodedShape.sysInit : EncodedShape.Statement (.sysInit) := by
  intro _; decide

theorem EncodedShape.statRead (sel : Nat) : EncodedShape.Statement (.statRead sel) := by
  intro hw
  simp only [Instr.WellFormed, Instr.wellFormed, decide_eq_true_eq] at hw
  exact shape_of_operands (op := 0x02) (f := .s) (by decide)
    (place_and_mask _ 0 4 (Format.mask .s) hw (by decide))

theorem EncodedShape.demodStart (tw : Nat) : EncodedShape.Statement (.demodStart tw) := by
  intro hw
  simp only [Instr.WellFormed, Instr.wellFormed, decide_eq_true_eq] at hw
  exact shape_of_operands (op := 0x08) (f := .t) (by decide)
    (place_and_mask _ 0 8 (Format.mask .t) hw (by decide))

theorem EncodedShape.demodStop : EncodedShape.Statement (.demodStop) := by
  intro _; decide

theorem EncodedShape.demodProcess : EncodedShape.Statement (.demodProcess) := by
  intro _; decide

theorem EncodedShape.demodLocked : EncodedShape.Statement (.demodLocked) := by
  intro _; decide

theorem EncodedShape.hdlcRxBit (inst : Nat) (bit : Bool) : EncodedShape.Statement (.hdlcRxBit inst bit) := by
  intro hw
  simp only [Instr.WellFormed, Instr.wellFormed, decide_eq_true_eq] at hw
  exact shape_of_operands (op := 0x0C) (f := .ib) (by decide)
    (or_operands (place_and_mask _ 24 2 (Format.mask .ib) hw (by decide)) (place_and_mask _ 0 1 (Format.mask .ib) (by cases bit <;> decide) (by decide)))

theorem EncodedShape.frameAcquire : EncodedShape.Statement (.frameAcquire) := by
  intro _; decide

theorem EncodedShape.frameRelease (h : Nat) : EncodedShape.Statement (.frameRelease h) := by
  intro hw
  simp only [Instr.WellFormed, Instr.wellFormed, decide_eq_true_eq] at hw
  exact shape_of_operands (op := 0x11) (f := .h) (by decide)
    (place_and_mask _ 20 6 (Format.mask .h) hw (by decide))

theorem EncodedShape.frameClear (h : Nat) : EncodedShape.Statement (.frameClear h) := by
  intro hw
  simp only [Instr.WellFormed, Instr.wellFormed, decide_eq_true_eq] at hw
  exact shape_of_operands (op := 0x12) (f := .h) (by decide)
    (place_and_mask _ 20 6 (Format.mask .h) hw (by decide))

theorem EncodedShape.frameAppend (h : Nat) (b : Byte) : EncodedShape.Statement (.frameAppend h b) := by
  intro hw
  simp only [Instr.WellFormed, Instr.wellFormed, decide_eq_true_eq] at hw
  exact shape_of_operands (op := 0x13) (f := .hb) (by decide)
    (or_operands (place_and_mask _ 20 6 (Format.mask .hb) hw (by decide)) (place_and_mask _ 0 8 (Format.mask .hb) (b.isLt) (by decide)))

theorem EncodedShape.frameRead (h : Nat) (idx : Nat) : EncodedShape.Statement (.frameRead h idx) := by
  intro hw
  simp only [Instr.WellFormed, Instr.wellFormed, Bool.and_eq_true, decide_eq_true_eq] at hw
  exact shape_of_operands (op := 0x14) (f := .hi) (by decide)
    (or_operands (place_and_mask _ 20 6 (Format.mask .hi) hw.1 (by decide)) (place_and_mask _ 0 16 (Format.mask .hi) hw.2 (by decide)))

theorem EncodedShape.frameSize (h : Nat) : EncodedShape.Statement (.frameSize h) := by
  intro hw
  simp only [Instr.WellFormed, Instr.wellFormed, decide_eq_true_eq] at hw
  exact shape_of_operands (op := 0x15) (f := .h) (by decide)
    (place_and_mask _ 20 6 (Format.mask .h) hw (by decide))

theorem EncodedShape.frameSetMeta (h : Nat) (src typ : Nibble) : EncodedShape.Statement (.frameSetMeta h src typ) := by
  intro hw
  simp only [Instr.WellFormed, Instr.wellFormed, decide_eq_true_eq] at hw
  exact shape_of_operands (op := 0x16) (f := .hm) (by decide)
    (or_operands (or_operands (place_and_mask _ 20 6 (Format.mask .hm) hw (by decide)) (place_and_mask _ 4 4 (Format.mask .hm) (src.isLt) (by decide))) (place_and_mask _ 0 4 (Format.mask .hm) (typ.isLt) (by decide)))

theorem EncodedShape.frameGetMeta (h : Nat) : EncodedShape.Statement (.frameGetMeta h) := by
  intro hw
  simp only [Instr.WellFormed, Instr.wellFormed, decide_eq_true_eq] at hw
  exact shape_of_operands (op := 0x17) (f := .h) (by decide)
    (place_and_mask _ 20 6 (Format.mask .h) hw (by decide))

theorem EncodedShape.frameParseFcs (h : Nat) : EncodedShape.Statement (.frameParseFcs h) := by
  intro hw
  simp only [Instr.WellFormed, Instr.wellFormed, decide_eq_true_eq] at hw
  exact shape_of_operands (op := 0x18) (f := .h) (by decide)
    (place_and_mask _ 20 6 (Format.mask .h) hw (by decide))

theorem EncodedShape.frameAddFcs (h : Nat) : EncodedShape.Statement (.frameAddFcs h) := by
  intro hw
  simp only [Instr.WellFormed, Instr.wellFormed, decide_eq_true_eq] at hw
  exact shape_of_operands (op := 0x19) (f := .h) (by decide)
    (place_and_mask _ 20 6 (Format.mask .h) hw (by decide))

theorem EncodedShape.frameOk (h : Nat) : EncodedShape.Statement (.frameOk h) := by
  intro hw
  simp only [Instr.WellFormed, Instr.wellFormed, decide_eq_true_eq] at hw
  exact shape_of_operands (op := 0x1A) (f := .h) (by decide)
    (place_and_mask _ 20 6 (Format.mask .h) hw (by decide))

theorem EncodedShape.frameComplete (h : Nat) : EncodedShape.Statement (.frameComplete h) := by
  intro hw
  simp only [Instr.WellFormed, Instr.wellFormed, decide_eq_true_eq] at hw
  exact shape_of_operands (op := 0x1B) (f := .h) (by decide)
    (place_and_mask _ 20 6 (Format.mask .h) hw (by decide))

theorem EncodedShape.frameGetFcs (h : Nat) : EncodedShape.Statement (.frameGetFcs h) := by
  intro hw
  simp only [Instr.WellFormed, Instr.wellFormed, decide_eq_true_eq] at hw
  exact shape_of_operands (op := 0x1C) (f := .h) (by decide)
    (place_and_mask _ 20 6 (Format.mask .h) hw (by decide))

theorem EncodedShape.frameGetCrc (h : Nat) : EncodedShape.Statement (.frameGetCrc h) := by
  intro hw
  simp only [Instr.WellFormed, Instr.wellFormed, decide_eq_true_eq] at hw
  exact shape_of_operands (op := 0x1D) (f := .h) (by decide)
    (place_and_mask _ 20 6 (Format.mask .h) hw (by decide))

theorem EncodedShape.hdlcStuff (h : Nat) : EncodedShape.Statement (.hdlcStuff h) := by
  intro hw
  simp only [Instr.WellFormed, Instr.wellFormed, decide_eq_true_eq] at hw
  exact shape_of_operands (op := 0x1E) (f := .h) (by decide)
    (place_and_mask _ 20 6 (Format.mask .h) hw (by decide))

theorem EncodedShape.fx25PickMode (len : Nat) : EncodedShape.Statement (.fx25PickMode len) := by
  intro hw
  simp only [Instr.WellFormed, Instr.wellFormed, decide_eq_true_eq] at hw
  exact shape_of_operands (op := 0x20) (f := .l) (by decide)
    (place_and_mask _ 0 9 (Format.mask .l) hw (by decide))

theorem EncodedShape.fx25Tag (mode : Nat) : EncodedShape.Statement (.fx25Tag mode) := by
  intro hw
  simp only [Instr.WellFormed, Instr.wellFormed, decide_eq_true_eq] at hw
  exact shape_of_operands (op := 0x21) (f := .m) (by decide)
    (place_and_mask _ 0 4 (Format.mask .m) hw (by decide))

theorem EncodedShape.fx25TagSelftest : EncodedShape.Statement (.fx25TagSelftest) := by
  intro _; decide

theorem EncodedShape.rsEncode (mode : Nat) (h : Nat) : EncodedShape.Statement (.rsEncode mode h) := by
  intro hw
  simp only [Instr.WellFormed, Instr.wellFormed, Bool.and_eq_true, decide_eq_true_eq] at hw
  exact shape_of_operands (op := 0x23) (f := .mh) (by decide)
    (or_operands (place_and_mask _ 20 6 (Format.mask .mh) hw.2 (by decide)) (place_and_mask _ 0 4 (Format.mask .mh) hw.1 (by decide)))

theorem EncodedShape.gfAlpha (x : Byte) : EncodedShape.Statement (.gfAlpha x) := by
  intro _
  exact shape_of_operands (op := 0x24) (f := .x) (by decide)
    (place_and_mask _ 0 8 (Format.mask .x) (x.isLt) (by decide))

theorem EncodedShape.gfLog (x : Byte) : EncodedShape.Statement (.gfLog x) := by
  intro _
  exact shape_of_operands (op := 0x25) (f := .x) (by decide)
    (place_and_mask _ 0 8 (Format.mask .x) (x.isLt) (by decide))

theorem EncodedShape.rsGenpoly (sel : Nat) (idx : Nat) : EncodedShape.Statement (.rsGenpoly sel idx) := by
  intro hw
  simp only [Instr.WellFormed, Instr.wellFormed, Bool.and_eq_true, decide_eq_true_eq] at hw
  exact shape_of_operands (op := 0x26) (f := .g) (by decide)
    (or_operands (place_and_mask _ 8 2 (Format.mask .g) hw.1 (by decide)) (place_and_mask _ 0 7 (Format.mask .g) hw.2 (by decide)))

end Sys2Proof.Laws
end

