-- ==== Sys2Proof/Tests/Slice0.lean ====
section
/-!
SUPPORT. The model's own tests: the well-formedness smoke, one written-out word per command, the test vectors of
spec/95_test_vectors.md (its number stands at each), one step per command, and a witness for every statement that has
hypotheses. Expected values come from spec/, none from the model.
-/

namespace Sys2Proof.Tests

open Sys2Proof.Machine Sys2Proof.Safety Sys2Proof.Laws

/-! ## Well-formedness: one ill-formed term per check -/

theorem test_ill_formed_statRead : (Instr.wellFormed (.statRead 16)) = false := by decide
theorem test_ill_formed_demodStart : (Instr.wellFormed (.demodStart 256)) = false := by decide
theorem test_ill_formed_hdlcRxBit : (Instr.wellFormed (.hdlcRxBit 4 true)) = false := by decide
theorem test_ill_formed_frameRelease : (Instr.wellFormed (.frameRelease 64)) = false := by decide
theorem test_ill_formed_frameClear : (Instr.wellFormed (.frameClear 64)) = false := by decide
theorem test_ill_formed_frameAppend : (Instr.wellFormed (.frameAppend 64 0)) = false := by decide
theorem test_ill_formed_frameRead_handle : (Instr.wellFormed (.frameRead 64 0)) = false := by decide
theorem test_ill_formed_frameRead_index : (Instr.wellFormed (.frameRead 0 65536)) = false := by decide
theorem test_ill_formed_frameSize : (Instr.wellFormed (.frameSize 64)) = false := by decide
theorem test_ill_formed_frameSetMeta : (Instr.wellFormed (.frameSetMeta 64 0 0)) = false := by decide
theorem test_ill_formed_frameGetMeta : (Instr.wellFormed (.frameGetMeta 64)) = false := by decide
theorem test_ill_formed_frameParseFcs : (Instr.wellFormed (.frameParseFcs 64)) = false := by decide
theorem test_ill_formed_frameAddFcs : (Instr.wellFormed (.frameAddFcs 64)) = false := by decide
theorem test_ill_formed_frameOk : (Instr.wellFormed (.frameOk 64)) = false := by decide
theorem test_ill_formed_frameComplete : (Instr.wellFormed (.frameComplete 64)) = false := by decide
theorem test_ill_formed_frameGetFcs : (Instr.wellFormed (.frameGetFcs 64)) = false := by decide
theorem test_ill_formed_frameGetCrc : (Instr.wellFormed (.frameGetCrc 64)) = false := by decide
theorem test_ill_formed_hdlcStuff : (Instr.wellFormed (.hdlcStuff 64)) = false := by decide
theorem test_ill_formed_pickMode : (Instr.wellFormed (.fx25PickMode 512)) = false := by decide
theorem test_ill_formed_tag : (Instr.wellFormed (.fx25Tag 16)) = false := by decide
theorem test_ill_formed_rsEncode_mode : (Instr.wellFormed (.rsEncode 16 0)) = false := by decide
theorem test_ill_formed_rsEncode_handle : (Instr.wellFormed (.rsEncode 1 64)) = false := by decide
theorem test_ill_formed_rsGenpoly_sel : (Instr.wellFormed (.rsGenpoly 4 0)) = false := by decide
theorem test_ill_formed_rsGenpoly_idx : (Instr.wellFormed (.rsGenpoly 0 128)) = false := by decide

/-! ## Decoding: words written out from R86 and R88; those of R94 and R96 are the spec's own -/

theorem test_decode_nop : decode 0x00000000 = .ok (.nop) := by decide
theorem test_decode_sysInit : decode 0x04000000 = .ok (.sysInit) := by decide
theorem test_decode_statRead : decode 0x08000004 = .ok (.statRead 4) := by decide
theorem test_decode_demodStart : decode 0x20000003 = .ok (.demodStart 3) := by decide
theorem test_decode_demodStop : decode 0x24000000 = .ok (.demodStop) := by decide
theorem test_decode_demodProcess : decode 0x28000000 = .ok (.demodProcess) := by decide
theorem test_decode_demodLocked : decode 0x2C000000 = .ok (.demodLocked) := by decide
theorem test_decode_hdlcRxBit : decode 0x32000001 = .ok (.hdlcRxBit 2 true) := by decide
theorem test_decode_frameAcquire : decode 0x40000000 = .ok (.frameAcquire) := by decide
theorem test_decode_frameRelease : decode 0x46F00000 = .ok (.frameRelease 47) := by decide
theorem test_decode_frameClear : decode 0x48100000 = .ok (.frameClear 1) := by decide
theorem test_decode_frameAppend : decode 0x4C200041 = .ok (.frameAppend 2 0x41) := by decide
theorem test_decode_frameRead : decode 0x5020000A = .ok (.frameRead 2 10) := by decide
theorem test_decode_frameSize : decode 0x57F00000 = .ok (.frameSize 63) := by decide
theorem test_decode_frameSetMeta : decode 0x58500010 = .ok (.frameSetMeta 5 1 0) := by decide
theorem test_decode_frameGetMeta : decode 0x5C500000 = .ok (.frameGetMeta 5) := by decide
theorem test_decode_frameParseFcs : decode 0x60100000 = .ok (.frameParseFcs 1) := by decide
theorem test_decode_frameAddFcs : decode 0x64300000 = .ok (.frameAddFcs 3) := by decide
theorem test_decode_frameOk : decode 0x68200000 = .ok (.frameOk 2) := by decide
theorem test_decode_frameComplete : decode 0x6C300000 = .ok (.frameComplete 3) := by decide
theorem test_decode_frameGetFcs : decode 0x70400000 = .ok (.frameGetFcs 4) := by decide
theorem test_decode_frameGetCrc : decode 0x74800000 = .ok (.frameGetCrc 8) := by decide
theorem test_decode_hdlcStuff : decode 0x79000000 = .ok (.hdlcStuff 16) := by decide
theorem test_decode_pickMode : decode 0x80000064 = .ok (.fx25PickMode 100) := by decide
theorem test_decode_tag : decode 0x84000004 = .ok (.fx25Tag 4) := by decide
theorem test_decode_tagSelftest : decode 0x88000000 = .ok (.fx25TagSelftest) := by decide
theorem test_decode_rsEncode : decode 0x8C100004 = .ok (.rsEncode 4 1) := by decide
theorem test_decode_gfAlpha : decode 0x90000008 = .ok (.gfAlpha 8) := by decide
theorem test_decode_gfLog : decode 0x94000001 = .ok (.gfLog 1) := by decide
theorem test_decode_rsGenpoly : decode 0x98000105 = .ok (.rsGenpoly 1 5) := by decide

/-- V-S7, R96: bit 8 is reserved in format HB. -/
theorem test_decode_reserved_hb : decode 0x4C200141 = .error (.reservedBits 0x13) := by decide
/-- V-GP: bit 7 is reserved in format G. -/
theorem test_decode_reserved_g : decode 0x98000080 = .error (.reservedBits 0x26) := by decide
/-- V-S15. -/
theorem test_decode_reserved_nop : decode 0x00000001 = .error (.reservedBits 0x00) := by decide
/-- V-S5, V-S6, V-S14. -/
theorem test_decode_unassigned :
    decode 0x0C000000 = .error (.unassignedOpcode 0x03) ∧ decode 0xFC000000 = .error (.unassignedOpcode 0x3F) ∧
      decode 0x14000000 = .error (.unassignedOpcode 0x05) := by decide
/-- A table row's word, read with its number of bits. -/
theorem test_decode_table_word : decodeTableWord 32 0x98000105 = some (.rsGenpoly 1 5) := by decide
/-- R94: the assembler lines of two examples. -/
theorem test_asm : (Instr.frameRead 2 10).asm = "FRAME_READ h2, 10" ∧ Instr.sysInit.asm = "SYS_INIT" := by decide
/-- R95: bit 0 of the octet first. -/
theorem test_pseudo :
    (Pseudo.hdlcRxOctets 1 [0x7E]).expand =
      [.hdlcRxBit 1 false, .hdlcRxBit 1 true, .hdlcRxBit 1 true, .hdlcRxBit 1 true, .hdlcRxBit 1 true, .hdlcRxBit 1 true,
        .hdlcRxBit 1 true, .hdlcRxBit 1 false] := by decide

/-! ## CRC, stuffing, tags, tables: the spec's vectors -/

/-- V-CRC1 to V-CRC3. -/
theorem test_crc_short : crc16 [] = 0x0000 ∧ crc16 [0x41] = 0xA3F5 ∧ crc16 [0xFF] = 0xFF00 := by decide
/-- V-CRC6. -/
theorem test_crc_check : crc16 [0x31, 0x32, 0x33, 0x34, 0x35, 0x36, 0x37, 0x38, 0x39] = 0x906E := by decide +kernel
/-- V-CRC6 through the accumulator of R161. -/
theorem test_crc_accumulator : crc16Acc [0x31, 0x32, 0x33, 0x34, 0x35, 0x36, 0x37, 0x38, 0x39] = 0x906E := by
  decide +kernel
/-- V-CRC7: the residue over the octets and their FCS, low octet first. -/
theorem test_residue : residue [0x01, 0x02, 0x03, 0x3B, 0x9D] = 0x0F47 := by decide +kernel
/-- V-ST1, V-ST4, V-ST8. -/
theorem test_stuff_ones :
    stuff [] = [0x7E, 0x7E] ∧ stuff [0xFF] = [0x7E, 0xDF, 0xFD, 0xFC] ∧
      stuff [0xFF, 0xFF] = [0x7E, 0xDF, 0xF7, 0xF5, 0xF3] := by decide +kernel
/-- V-ST9, V-ST10: runs across an octet boundary. -/
theorem test_stuff_boundary :
    stuff [0x1F, 0xF8] = [0x7E, 0x1F, 0xF0, 0xF9, 0xF9] ∧ stuff [0xF8, 0x01] = [0x7E, 0xF8, 0x02, 0xFC, 0xFC] := by
  decide +kernel
/-- V-ST11. -/
theorem test_stuff_frame :
    stuff [0xFF, 0xFF, 0x7E, 0x06, 0x65] = [0x7E, 0xDF, 0xF7, 0xF5, 0x65, 0x50, 0xE6, 0xE7] := by decide +kernel
/-- R218, V-FX2: tag 4 in transmission order. -/
theorem test_tag_octets : tagOctets (tagAt tagTable 4) = [0xEE, 0x60, 0x96, 0x36, 0xB4, 0x6E, 0x05, 0x8F] := by
  decide +kernel

/-- The tables of R210. -/
def printedTables : GfTables where
  alphaTo := ⟨⟨referenceAlpha⟩, by decide +kernel⟩
  indexOf := ⟨⟨referenceLog⟩, by decide +kernel⟩

/-- The tables SYS_INIT builds are the printed ones. -/
theorem built_eq_printed : builtTables = printedTables := by
  have ha : builtTables.alphaTo = printedTables.alphaTo := Vector.toList_inj.mp built_alpha
  have hb : builtTables.indexOf = printedTables.indexOf := Vector.toList_inj.mp built_log
  exact congr (congrArg GfTables.mk ha) hb

/-- genpoly[16] in log form, as R211 prints it. -/
def printedGen16 : List Byte := [136, 240, 208, 195, 181, 158, 201, 100, 11, 83, 167, 107, 113, 110, 106, 121, 0]

theorem test_genpoly16 : buildGenLog printedTables 16 = printedGen16 := by decide +kernel

/-- V-RS5: the data 00 01 02 .. 1F. -/
theorem test_rs_parity :
    rsParity printedTables 16 printedGen16 ((List.range 32).map (BitVec.ofNat 8)) =
      [0x95, 0xC8, 0xF6, 0xC9, 0x30, 0x9D, 0x9B, 0xD9, 0x15, 0x01, 0xA2, 0x2E, 0xB5, 0x4C, 0x34, 0x54] := by
  decide +kernel

/-! ## The states of the tests -/

/-- Initialised, tables not filled in (the tests that need them use `built`). -/
def booted : State := { State.reset with initDone := true }

/-- `booted` with host frame 0 holding these octets, whose chunks are taken from the unused. -/
def holding (os : List Byte) : State :=
  { booted with
    slots := State.reset.slots.set 0 { Slot.reset with owner := .host, octets := os }
    free := (List.finRange 48).tail
    freeChunks := 48 - chunks os.length }

/-- `booted` with every slot the host's. -/
def allHost : State :=
  { booted with slots := Vector.replicate 48 { Slot.reset with owner := .host }, free := [] }

/-- A state after a successful SYS_INIT with these slots. -/
def withTables (s : State) : State :=
  { s with alphaTo := builtTables.alphaTo, indexOf := builtTables.indexOf, genpoly16 := buildGenLog builtTables 16,
           genpoly32 := buildGenLog builtTables 32, genpoly64 := buildGenLog builtTables 64 }

/-- Running, with one block queued and host frame 0 empty. -/
def running : State :=
  { withTables (holding []) with
    configured := true, running := true, sampleQueue := [List.replicate Config.blockLen 0]
    inputs := [.command 0x28000000] }

/-- `booted` in the fatal state. -/
def broken : State := { booted with fatal := true }

/-- The destuffer of instance 1 on the seventh bit of a closing flag, its frame 41 F5 A3 in slot 3. -/
def closing : State :=
  { booted with
    slots := State.reset.slots.set 3 { Slot.reset with owner := .rx 1, octets := [0x41, 0xF5, 0xA3] }
    dx := State.reset.dx.set 1 { ones := 6, olen := some 7, oacc := 0, rx := some 3 } }

/-- A property of the next state; false at a stop. -/
def nextHas (o : Outcome) (p : State → Bool) : Bool :=
  match o with
  | .next t => p t
  | .fault _ => false
  | .refused _ => false

/-- The three response registers after a command. -/
def answers (o : Outcome) (c v0 v1 : Word) : Bool :=
  nextHas o fun t => t.status == c && t.value0 == v0 && t.value1 == v1

theorem chunkSize_pos : 0 < Config.chunkSize := by unfold Config.chunkSize; omega
theorem twistCount_pos : 0 < Config.twistCount := by unfold Config.twistCount; omega

theorem chunks_le (n : Nat) : chunks n ≤ n := by
  unfold chunks
  rw [Nat.div_le_iff_le_mul_add_pred chunkSize_pos]
  have := Nat.le_mul_of_pos_left n chunkSize_pos
  omega

theorem chunks_pos {n : Nat} (h : 0 < n) : 0 < chunks n := by
  unfold chunks
  exact Nat.div_pos (by omega) chunkSize_pos

theorem booted_ready : Ready booted := ⟨rfl, rfl⟩
theorem holding_ready (os : List Byte) : Ready (holding os) := ⟨rfl, rfl⟩
theorem holding_frame (os : List Byte) : HostFrame (holding os) 0 0 := ⟨rfl, rfl⟩

/-- FRAME_ADD_FCS on the frame 41, its FCS A3F5 (V-CRC2). -/
theorem addFcs_41 :
    exec (.frameAddFcs 0) (holding [0x41]) = .next { responded (holding [0x41]) 0x00 0xA3F5 3 with
      slots := (holding [0x41]).slots.set 0 { Slot.reset with
        owner := .host, octets := [0x41, 0xF5, 0xA3], fcs := 0xA3F5, crc := 0x0F47, complete := true }
      freeChunks := 48 - chunks 1 - (chunks 3 - chunks 1) } := by
  have hc : crc16 [0x41] = 0xA3F5 := by decide
  obtain ⟨t, ht⟩ : ∃ t, (holding [0x41]).frameAppendN 0 [0xF5, 0xA3] = some t := by
    cases h : (holding [0x41]).frameAppendN 0 [0xF5, 0xA3] with
    | some t => exact ⟨t, rfl⟩
    | none =>
      have h1 : 48 - chunks 1 < chunks 3 - chunks 1 := frameAppendN_eq_none.mp h
      have h2 := chunks_le 3
      have h3 := chunks_le 1
      omega
  have h2 := (frameAppendN_eq_some ht).2
  have hx : (holding [0x41]).addFcs 0 =
      some (t.setSlot 0 { t.slots[(0 : Handle)] with fcs := 0xA3F5, crc := okSentinel, complete := true }) := by
    show Option.map (fun t : State => t.setSlot 0
      { t.slots[(0 : Handle)] with fcs := crc16 [0x41], crc := okSentinel, complete := true })
      ((holding [0x41]).frameAppendN 0 (fcsOctets (crc16 [0x41]))) = _
    rw [hc, show fcsOctets 0xA3F5 = [0xF5, 0xA3] by decide, ht]
    rfl
  simp only [exec, execFrameAddFcs, command_of_ready (holding_ready _), onFrame_of_host (holding_frame _), hx]
  rw [h2]
  rfl

/-! ## One step per command -/

/-- R110. -/
theorem test_nop : answers (exec .nop State.reset) 0x00 0 0 = true := by decide
/-- V-S4: the second SYS_INIT builds nothing. -/
theorem test_sysInit_again : exec .sysInit booted = .next (responded booted 0x00 0 0) := rfl
/-- V-S3: the first one sets init_done. -/
theorem test_sysInit_first : nextHas (exec .sysInit State.reset) (fun t => t.initDone && t.status == 0x00) = true := by
  decide +kernel
/-- V-S2, V-S8. -/
theorem test_statRead :
    answers (exec (.statRead 0) State.reset) 0x00 0 0 = true ∧ answers (exec (.statRead 9) booted) 0x12 0 0 = true := by
  decide
/-- R112: 48 free slots after reset. -/
theorem test_statRead_free : answers (exec (.statRead 6) booted) 0x00 48 0 = true := by decide
/-- V-S1. -/
theorem test_notInit : answers (exec .frameAcquire State.reset) 0x14 0 0 = true := by decide
/-- V-S7: ILLEGAL comes before NOT_INIT. -/
theorem test_illegal_first : answers (execute 0x4C200141 State.reset) 0x10 0 0 = true := by decide
/-- R141: DEMOD_START releases the frame being received, and starts the bank. -/
theorem test_demodStart :
    nextHas (exec (.demodStart 0) closing) (fun t => t.configured && t.running && t.free.head? == some 3) = true := by
  simp only [exec, execDemodStart, command_of_ready (show Ready closing from ⟨rfl, rfl⟩), twistOperand, twistCount_pos]
  rfl
/-- R142: the queue stays. -/
theorem test_demodStop :
    nextHas (exec .demodStop running) (fun t => !t.running && t.configured && t.sampleQueue.length == 1) = true := by
  decide
/-- V-S11, V-S12. -/
theorem test_demodProcess_errors :
    answers (exec .demodProcess booted) 0x15 0 0 = true ∧
      answers (exec .demodProcess { booted with configured := true }) 0x02 0 0 = true := by decide
/-- V-S13. -/
theorem test_demodLocked : answers (exec .demodLocked booted) 0x00 0 0 = true := by decide
/-- V-S9. -/
theorem test_hdlcRxBit_operand : answers (exec (.hdlcRxBit 3 false) booted) 0x12 0 0 = true := by decide
/-- R145, R177: the closing flag of the frame 41 F5 A3 (V-F4 gives its residue) hands slot 3 to the host. -/
theorem test_hdlcRxBit :
    nextHas (exec (.hdlcRxBit 1 false) closing) (fun t => t.value0 == 3 && t.status == 0x00 &&
      t.slots[3].owner == .host && t.slots[3].metaByte == 0x10 && t.slots[3].fcs == 0xA3F5) = true := by decide +kernel
/-- R180: the top of the free list. -/
theorem test_frameAcquire :
    nextHas (exec .frameAcquire booted) (fun t => t.value0 == 0 && t.slots[0].owner == .host && t.free.head? == some 1) =
      true := by decide
/-- P5: with no slot free. -/
theorem test_frameAcquire_exhausted : answers (exec .frameAcquire allHost) 0x03 0 0 = true := by decide
/-- R181. -/
theorem test_frameRelease :
    nextHas (exec (.frameRelease 0) (holding [0x41])) (fun t => t.slots[0] == Slot.reset && t.free.head? == some 0) =
      true := by decide
/-- V-F7: a free slot; R169: a handle above 47. -/
theorem test_badHandle :
    answers (exec (.frameParseFcs 1) (holding [])) 0x11 0 0 = true ∧
      answers (exec (.frameSize 48) (holding [])) 0x11 0 0 = true := by decide
/-- R182: the owner stays. -/
theorem test_frameClear :
    nextHas (exec (.frameClear 0) (holding [0x41])) (fun t => t.slots[0] == { Slot.reset with owner := .host }) =
      true := by decide
/-- R183. -/
theorem test_frameAppend :
    nextHas (exec (.frameAppend 0 0x41) (holding [])) (fun t => t.value0 == 1 && t.slots[0].octets == [0x41]) = true := by
  obtain ⟨t, ht⟩ : ∃ t, (holding []).frameAppend 0 0x41 = some t := by
    cases h : (holding []).frameAppend 0 0x41 with
    | some t => exact ⟨t, rfl⟩
    | none =>
      have : 48 - chunks 0 = 0 := (frameAppend_eq_none.mp h).2
      simp at this
  have h2 := (frameAppend_eq_some ht).2
  simp only [exec, execFrameAppend, command_of_ready (holding_ready _), onFrame_of_host (holding_frame _), ht]
  rw [h2]
  rfl
/-- R184: the last octet and the one after it. -/
theorem test_frameRead :
    answers (exec (.frameRead 0 1) (holding [0x41, 0x42])) 0x00 0x42 0 = true ∧
      answers (exec (.frameRead 0 2) (holding [0x41, 0x42])) 0x12 0 0 = true := by decide
/-- R185. -/
theorem test_frameSize : answers (exec (.frameSize 0) (holding [0x41, 0xF5, 0xA3])) 0x00 3 0 = true := by decide
/-- R186, R187: source 1, type 0. -/
theorem test_frameSetMeta :
    nextHas (exec (.frameSetMeta 0 1 0) (holding [])) (fun t => answers (exec (.frameGetMeta 0) t) 0x00 0x10 0) =
      true := by decide
/-- V-F2, V-F4. -/
theorem test_frameParseFcs :
    answers (exec (.frameParseFcs 0) (holding [0x41])) 0x13 0 0 = true ∧
      answers (exec (.frameParseFcs 0) (holding [0x41, 0xF5, 0xA3])) 0x00 0x0F47 0xA3F5 = true := by decide +kernel
/-- V-F6: FRAME_OK, FRAME_COMPLETE, FRAME_GET_FCS and FRAME_GET_CRC after it. -/
theorem test_frame_readers :
    nextHas (exec (.frameParseFcs 0) (holding [0x41, 0xF5, 0xA3, 0x00])) (fun t =>
      answers (exec (.frameOk 0) t) 0x00 0 0 && answers (exec (.frameComplete 0) t) 0x00 1 0 &&
      answers (exec (.frameGetFcs 0) t) 0x00 0x00A3 0 && answers (exec (.frameGetCrc 0) t) 0x00 0xC6CC 0) = true := by
  decide +kernel
/-- V-F3. -/
theorem test_frameAddFcs :
    nextHas (exec (.frameAddFcs 0) (holding [0x41])) (fun t => t.value0 == 0xA3F5 && t.value1 == 3 &&
      t.slots[0].octets == [0x41, 0xF5, 0xA3] && t.slots[0].crc == 0x0F47 && t.slots[0].complete) = true := by
  rw [addFcs_41]
  rfl
/-- V-ST1: with the tail of the free list, the new frame is slot 1. -/
theorem test_hdlcStuff :
    nextHas (exec (.hdlcStuff 0) (holding [])) (fun t => t.value0 == 1 && t.value1 == 2 &&
      t.slots[1].octets == [0x7E, 0x7E] && t.slots[0].octets == []) = true := by
  have hl : ¬ chunks (stuff ((holding []).octets 0)).length > (holding []).freeChunks := by
    have := chunks_le 2
    show ¬ chunks 2 > 48 - chunks 0
    simp
    omega
  simp only [exec, execHdlcStuff, command_of_ready (holding_ready _), onFrame_of_host (holding_frame _)]
  unfold stuffRule
  simp only [if_neg hl]
  rfl
/-- V-FX1 at the bounds 32, 33, 239, 240. -/
theorem test_pickMode :
    answers (exec (.fx25PickMode 32) booted) 0x00 0x00302004 0 = true ∧
      answers (exec (.fx25PickMode 33) booted) 0x00 0x00504003 0 = true ∧
      answers (exec (.fx25PickMode 239) booted) 0x00 0x00FFEF01 0 = true ∧
      answers (exec (.fx25PickMode 240) booted) 0x01 0 0 = true := by decide
/-- V-FX2. -/
theorem test_tag :
    answers (exec (.fx25Tag 0) booted) 0x12 0 0 = true ∧
      answers (exec (.fx25Tag 1) booted) 0x00 0x8A532F3E 0xB74DB7DF = true ∧
      answers (exec (.fx25Tag 11) booted) 0x00 0xA724B796 0x4A4ABEC4 = true ∧
      answers (exec (.fx25Tag 12) booted) 0x12 0 0 = true := by decide
/-- S4: 55 pairs. -/
theorem test_tagSelftest : answers (exec .fx25TagSelftest booted) 0x00 55 0 = true := by decide +kernel
/-- The error table of V-RS, on a host frame of 32 octets. -/
theorem test_rsEncode_errors :
    answers (exec (.rsEncode 0 0) (holding (List.replicate 32 0))) 0x12 0 0 = true ∧
      answers (exec (.rsEncode 12 0) (holding (List.replicate 32 0))) 0x12 0 0 = true ∧
      answers (exec (.rsEncode 3 0) (holding (List.replicate 32 0))) 0x13 0 0 = true ∧
      answers (exec (.rsEncode 4 5) (holding (List.replicate 32 0))) 0x11 0 0 = true := by decide
/-- V-GF at 0x08 and 0x1D, on the printed tables. -/
theorem test_gf :
    answers (exec (.gfAlpha 0x08) { booted with alphaTo := printedTables.alphaTo }) 0x00 0x1D 0 = true ∧
      answers (exec (.gfLog 0x1D) { booted with indexOf := printedTables.indexOf }) 0x00 0x08 0 = true := by decide
/-- V-GP: 0, 0 and 0, 16 and 0, 17 and 3, 0. -/
theorem test_rsGenpoly :
    let s : State := { booted with alphaTo := printedTables.alphaTo, genpoly16 := printedGen16 }
    answers (exec (.rsGenpoly 0 0) s) 0x00 136 0x4F = true ∧ answers (exec (.rsGenpoly 0 16) s) 0x00 0 0x01 = true ∧
      answers (exec (.rsGenpoly 0 17) s) 0x12 0 0 = true ∧ answers (exec (.rsGenpoly 3 0) s) 0x12 0 0 = true := by
  decide
/-- R76, R79: a read of CMD returns 0; a 16-bit access is refused; a whole one lands on its register. -/
theorem test_window :
    windowAccess 0x4 2 = .undefined ∧ windowAccess 0x6 4 = .undefined ∧ windowAccess 0xC 4 = .register .value1 ∧
      windowAccess 0x0 4 = .register .cmd ∧ booted.readRegister .cmd = 0 := by decide
/-- R68: the 16 bytes stand at REG_BASE; the first address above them, and one below, are outside. -/
theorem test_window_placed :
    accessAt (Config.regBase + 0xC) 4 = .register .value1 ∧ accessAt (Config.regBase + 0x10) 4 = .outside ∧
      (4 ≤ Config.regBase → accessAt (Config.regBase - 4) 4 = .outside ∧ accessAt (Config.regBase - 2) 4 = .undefined) :=
  ⟨accessAt_add (by decide) 4, accessAt_outside (.inr (Nat.le_refl _)), fun h =>
    ⟨accessAt_outside (.inl (by omega)), accessAt_straddling (by omega) (by omega)⟩⟩
/-- R240: the word placed for the next step runs. -/
theorem test_withFetchWord : answers (step (State.reset.withFetchWord 32 0x40000000)) 0x14 0 0 = true := by decide

/-! ## Witnesses: a state and operands that meet the hypotheses of each statement -/

theorem witness_ResetGivesSpecValues :
    ({ running with inputs := [.reset] } : State).inputs = .reset :: [] := rfl

theorem holding_other (os : List Byte) {f : Handle} (hf : f ≠ 0) : (holding os).slots[f] = Slot.reset := by
  have h := slots_set_ne State.reset.slots 0 f { Slot.reset with owner := .host, octets := os } hf
  exact h.trans (by simp [State.reset])

theorem holding_pool (os : List Byte) (h : chunks os.length ≤ 48) : PoolInv (holding os) := by
  refine ⟨⟨by show (List.finRange 48).tail.Nodup; decide, ?_⟩, ?_, ?_, ?_⟩
  · intro f
    by_cases hf : f = 0
    · subst hf
      show (0 : Handle) ∈ (List.finRange 48).tail ↔ Owner.host = Owner.free
      decide
    · have : (holding os).slots[f] = Slot.reset := holding_other os hf
      rw [this]
      show f ∈ (List.finRange 48).tail ↔ Owner.free = Owner.free
      have all : ∀ g : Handle, g ≠ 0 → g ∈ (List.finRange 48).tail := by decide
      exact iff_of_true (all f hf) rfl
  · have hsum : chunksHeld (holding os) = chunks os.length := by
      have hz : (List.finRange 48).tail.map (fun h : Handle =>
          if (holding os).slots[h].owner = .free then 0 else chunks ((holding os).octets h).length) =
            (List.finRange 48).tail.map fun _ => 0 := by
        apply List.map_congr_left
        intro f hf
        have hne : f ≠ 0 := by rintro rfl; revert hf; decide
        have : (holding os).slots[f] = Slot.reset := holding_other os hne
        rw [this]
        rfl
      have hl : List.finRange 48 = 0 :: (List.finRange 48).tail := by decide
      unfold chunksHeld
      rw [hl, List.map_cons, hz, List.sum_cons]
      simp [holding, State.octets]
    show 48 - chunks os.length + chunksHeld (holding os) = 48
    omega
  · intro f hf
    by_cases h0 : f = 0
    · subst h0; cases (show Owner.host = Owner.free from hf)
    · exact holding_other os h0
  · intro i f
    have hd : (holding os).dx[i].rx = none := by simp [holding, booted, State.reset, Destuffer.reset]
    rw [hd]
    by_cases h0 : f = 0
    · subst h0
      show none = some 0 ↔ Owner.host = Owner.rx i
      simp
    · have : (holding os).slots[f] = Slot.reset := holding_other os h0
      rw [this]
      simp [Slot.reset]

theorem withTables_built (s : State) : TablesBuilt (withTables s) := by
  intro _
  refine ⟨by simp only [withTables, State.gf, builtTables], fun c => ?_⟩
  cases c <;> simp only [withTables, State.genpoly, Code.parity, builtTables]

theorem running_inv : Inv running := by
  have hd : ∀ i : InstId, running.dx[i] = Destuffer.reset := by
    intro i
    simp [running, withTables, holding, booted, State.reset]
  refine ⟨holding_pool [] (by simp), ?_, ⟨?_, ?_⟩, ⟨?_, ?_⟩, ⟨?_, ?_, ?_⟩, ?_⟩
  · intro i
    rw [hd i]
    simp [DestufferRanges, Destuffer.reset]
  · show 1 ≤ Config.sbqDepth
    unfold Config.sbqDepth
    omega
  · intro x hx
    have : x = List.replicate Config.blockLen 0 := by simpa [running] using hx
    rw [this, List.length_replicate]
  · simp [running, withTables, holding, booted, State.reset]
  · intro i
    simp [running, withTables, holding, booted, State.reset]
  · decide
  · intro _; rfl
  · intro _; exact ⟨rfl, twistCount_pos⟩
  · exact withTables_built (holding [])

theorem running_ready : Ready running := ⟨rfl, rfl⟩

theorem witness_StepKeepsInvariant :
    ∃ t, Inv running ∧ step running = .next t := by
  obtain ⟨t, ht⟩ := command_answers .afterInit processRule { running with inputs := [] }
  exact ⟨t, running_inv, ht⟩

theorem witness_DecodeOfEncode :
    (Instr.frameRead 63 65535).WellFormed := by decide

theorem witness_EncodeOfDecode :
    decode 0x53F0FFFF = .ok (.frameRead 63 65535) := by decide

theorem witness_LegalWordsAreExactlyTheRows :
    Legal 0x98000105 ∧ ¬ Legal 0x98000080 := by
  unfold Legal
  decide

theorem witness_StepRunsDecodedCommand :
    running.inputs = .command 0x28000000 :: [] ∧
      ({ running with inputs := [.write Config.regBase 4 0x28000000] } : State).inputs = .write Config.regBase 4 0x28000000 :: [] ∧
      decode 0x28000000 = .ok .demodProcess := ⟨rfl, rfl, by decide⟩

theorem witness_IllegalWordReportsIllegal :
    ¬ Legal 0x0C000000 ∧ ¬ Legal 0x4C200141 ∧ booted.fatal = false := by
  refine ⟨?_, ?_, rfl⟩ <;>
  · unfold Legal
    decide

theorem witness_FatalStateIsSticky :
    broken.fatal = true ∧ ¬ (0x08000010 : Word) &&& 0xFFFFFFF0 = 0x08000000 ∧ broken.inputs.head? ≠ some .reset ∧
      step broken = .next broken ∧ booted.fatal = false ∧ ∃ t, exec .nop booted = .next t := ⟨rfl, by decide, by decide, rfl, rfl, _, rfl⟩

theorem witness_NotInitBeforeSysInit :
    State.reset.fatal = false ∧ State.reset.initDone = false ∧ ¬ BootCommand .frameAcquire := ⟨rfl, rfl, id⟩

theorem witness_RefusedCommandChangesOnlyResponses :
    ∃ t, exec .frameAcquire allHost = .next t ∧ RefusedCode t.status := ⟨_, rfl, .inr (.inl rfl)⟩

theorem witness_StatusCodesOnlyFromTheirCommands :
    (∃ t, exec (.fx25PickMode 240) booted = .next t ∧ t.status = 0x01) ∧
      (∃ t, exec .demodProcess { booted with configured := true } = .next t ∧ t.status = 0x02) ∧
      (∃ t, exec .frameAcquire allHost = .next t ∧ t.status = 0x03) ∧
      (∃ t, exec (.frameSize 48) booted = .next t ∧ t.status = 0x11) ∧
      (∃ t, exec (.statRead 9) booted = .next t ∧ t.status = 0x12) ∧
      (∃ t, exec (.frameParseFcs 0) (holding []) = .next t ∧ t.status = 0x13) ∧
      (∃ t, exec .frameAcquire State.reset = .next t ∧ t.status = 0x14) ∧
      (∃ t, exec .demodProcess booted = .next t ∧ t.status = 0x15) ∧
      ∃ t, exec .nop broken = .next t ∧ t.status = 0x1F := by
  refine ⟨⟨_, rfl, ?_⟩, ⟨_, rfl, ?_⟩, ⟨_, rfl, ?_⟩, ⟨_, rfl, ?_⟩, ⟨_, rfl, ?_⟩, ⟨_, rfl, ?_⟩, ⟨_, rfl, ?_⟩, ⟨_, rfl, ?_⟩,
    ⟨_, rfl, ?_⟩⟩ <;>
    decide

theorem witness_RegisterWindowAccesses :
    (∀ a n, (a = Config.regBase + 15 ∧ n = 4 ∨ a = Config.regBase ∧ n = 2) → a < Config.regBase + 16 ∧
      Config.regBase ≤ a ∧ ∀ k, k < 4 → ¬ (a = Config.regBase + 4 * k ∧ n = 4)) ∧
      ∃ a, Config.regBase + 16 ≤ a := ⟨fun _ _ h => ⟨by omega, by omega, fun _ _ hk => by omega⟩, _, Nat.le_refl _⟩

/-- Queue full, queue with room, and not running. -/
theorem witness_DeliveryQueuesOrDrops :
    let x : List Sample := List.replicate Config.blockLen 0
    let full : State := { running with sampleQueue := List.replicate Config.sbqDepth x, inputs := [.deliver x] }
    let empty : State := { running with sampleQueue := [], inputs := [.deliver x] }
    x.length = Config.blockLen ∧ (full.inputs = .deliver x :: [] ∧ full.fatal = false ∧ full.running = true ∧
      full.sampleQueue.length = Config.sbqDepth) ∧ (empty.fatal = false ∧ empty.running = true ∧
      empty.sampleQueue.length ≠ Config.sbqDepth) ∧ broken.fatal = true ∧ booted.running = false := by
  refine ⟨List.length_replicate, ⟨rfl, rfl, rfl, List.length_replicate⟩, ⟨rfl, rfl, ?_⟩, rfl, rfl⟩
  show 0 ≠ Config.sbqDepth
  unfold Config.sbqDepth
  omega

theorem witness_UnbuiltFieldsAreUnobservable :
    SameReadable State.reset { State.reset with alphaTo := Vector.replicate 256 1, core := Vector.replicate 3 7 } := ⟨rfl, fun h => absurd h (by decide), fun h => absurd h (by decide)⟩

theorem witness_ControlFlagWriters :
    (∃ t, exec .demodStop running = .next t ∧ t.running ≠ running.running) ∧
      (∃ t, exec .sysInit State.reset = .next t ∧ t.initDone ≠ State.reset.initDone) ∧
      ∃ t, exec (.demodStart 0) booted = .next t ∧ t.configured ≠ booted.configured ∧ t.running ≠ booted.running := by
  refine ⟨⟨_, rfl, by decide⟩, ⟨_, rfl, by decide +kernel⟩, ?_⟩
  simp only [exec, execDemodStart, command_of_ready booted_ready, twistOperand, twistCount_pos]
  exact ⟨_, rfl, by decide, by decide⟩

theorem witness_FamilyFrames :
    ∃ t, exec .frameAcquire booted = .next t ∧ booted.initDone = true := ⟨_, rfl, rfl⟩

theorem witness_UnnamedHostFramesUntouched :
    ∃ t, Inv running ∧ exec .frameAcquire running = .next t ∧ running.slots[(0 : Handle)].owner = .host ∧
      handleOf .frameAcquire ≠ some (0 : Handle).val := ⟨_, running_inv, rfl, rfl, by decide⟩

theorem witness_NopRule :
    (0x00000000 : Word) &&& 0xFFFFFFFF = 0x00000000 ∧ booted.fatal = false ∧ broken.fatal = true := by decide

/-- A polynomial that fails its check, and a tag table that fails its own. -/
theorem witness_SysInitRule :
    (State.reset.initDone = false ∧ State.reset.fatal = false) ∧ booted.initDone = true ∧ (buildGf 0x100).ok = false ∧
      (buildGf 0x11D).ok = true ∧ tagSelfTest [] = false := by
  refine ⟨⟨rfl, rfl⟩, rfl, ?_, ?_, ?_⟩ <;> decide +kernel

theorem witness_StatReadRule :
    (0x08000004 : Word) &&& 0xFFFFFFF0 = 0x08000000 ∧ (9 : Nat) ≤ 9 := by decide

theorem witness_DemodStartRule :
    Ready running ∧ PoolInv running ∧ 0 < Config.twistCount ∧ Config.twistCount ≤ Config.twistCount := ⟨running_ready, running_inv.1, twistCount_pos, le_refl _⟩

theorem witness_DemodStopRule :
    Ready running := running_ready

theorem witness_DemodProcessErrors :
    Ready booted ∧ booted.configured = false ∧ Ready { booted with configured := true } ∧
      ({ booted with configured := true } : State).sampleQueue = [] := ⟨booted_ready, rfl, ⟨rfl, rfl⟩, rfl⟩

theorem witness_DemodProcessCompletes :
    Ready running ∧ running.configured = true ∧ running.sampleQueue = List.replicate Config.blockLen 0 :: [] ∧
      FilterLengths running := ⟨running_ready, rfl, rfl, running_inv.2.2.2.1⟩

theorem witness_BlockDeliversAtMostOneFrame :
    ∃ t, Inv running ∧ Ready running ∧ running.configured = true ∧
      running.sampleQueue = List.replicate Config.blockLen 0 :: [] ∧ exec .demodProcess running = .next t := by
  obtain ⟨t, ht⟩ := command_answers .afterInit processRule running
  exact ⟨t, running_inv, running_ready, rfl, rfl, ht⟩

theorem witness_DemodLockedRule :
    Ready booted ∧ Ready running := ⟨booted_ready, running_ready⟩

theorem witness_HdlcRxBitRule :
    Ready closing ∧ (closing.destuffBit 1 false).1 = some 3 ∧ (closing.destuffBit 0 false).1 = none ∧ (3 : Nat) ≤ 3 := ⟨⟨rfl, rfl⟩, by decide +kernel, by decide, le_refl _⟩

/-- Two candidates with one FCS, in slots 1 and 2, and an earlier result in slot 3; the FCS was accepted two blocks ago. -/
def candidates : State :=
  { booted with
    slots := ((State.reset.slots.set 1 { Slot.reset with owner := .rx 0, fcs := 0x1234 }).set 2
      { Slot.reset with owner := .rx 1, fcs := 0x1234 }).set 3 { Slot.reset with owner := .rx 0, fcs := 0x5678 }
    lastFcs := 0x1234, lastBlockCounter := 7, blockCounter := 9 }

/-- Two blocks elapsed, three elapsed, and another FCS. -/
theorem witness_ArbitrationRule :
    (some 3 : Option Handle) ≠ some 1 ∧
      (candidates.slots[(1 : Handle)].fcs = candidates.lastFcs ∧ elapsedBlocks candidates ≤ 2) ∧
      2 < elapsedBlocks { candidates with blockCounter := 10 } ∧
      ({ candidates with lastFcs := 0 } : State).slots[(1 : Handle)].fcs ≠ 0 := by
  refine ⟨by decide, ⟨rfl, ?_⟩, ?_, ?_⟩ <;> decide

theorem witness_DedupWindow :
    let s : State := { candidates with lastFcs := 0 }
    s.accepts 1 = true ∧ (none : Option Handle) ≠ some 1 ∧
      ∃ t, s.arbitrate 1 none = (some 1, t) ∧ t.slots[(2 : Handle)].fcs = s.slots[(1 : Handle)].fcs := ⟨by decide, by decide, _, rfl, rfl⟩

/-- `booted` with instance 0's destuffer as given. -/
def receiving (d : Destuffer) : State := { booted with dx := State.reset.dx.set 0 d }

theorem witness_DestufferBitRules :
    (6 ≤ (receiving { ones := 6, olen := none, oacc := 0, rx := none }).dx[(0 : InstId)].ones) ∧
      closing.dx[(1 : InstId)].rx = some 3 ∧ 6 ≤ closing.dx[(1 : InstId)].ones ∧
      (receiving { ones := 5, olen := some 0, oacc := 0, rx := none }).dx[(0 : InstId)].ones = 5 ∧
      (receiving { ones := 5, olen := none, oacc := 0, rx := none }).dx[(0 : InstId)].olen = none ∧
      (receiving { ones := 5, olen := none, oacc := 0, rx := none }).dx[(0 : InstId)].ones < 6 ∧
      (receiving { ones := 7, olen := none, oacc := 0, rx := none }).dx[(0 : InstId)].ones ≠ 6 := by decide

/-- The seventh bit, the eighth into a frame in reception, and the eighth of a frame's first octet. -/
theorem witness_DestufferBitRules_data :
    let first : State := receiving { ones := 5, olen := some 7, oacc := 0, rx := none }
    let later : State := receiving { ones := 0, olen := some 7, oacc := 0, rx := some 0 }
    (IsDataBit 5 true ∧ (receiving { ones := 5, olen := some 6, oacc := 0, rx := none }).dx[(0 : InstId)].olen = some 6) ∧
      (IsDataBit 0 false ∧ later.dx[(0 : InstId)].olen = some 7 ∧ later.dx[(0 : InstId)].rx = some 0 ∧
        later.freeChunks ≠ 0) ∧
      first.dx[(0 : InstId)].olen = some 7 ∧ first.dx[(0 : InstId)].rx = none ∧ first.free = 0 :: (List.finRange 48).tail ∧
      first.freeChunks ≠ 0 := by
  unfold IsDataBit
  decide

/-- A good frame, no frame, and one off the octet boundary. -/
theorem witness_FlagClosesFrame :
    closing.dx[(1 : InstId)].ones = 6 ∧ closing.dx[(1 : InstId)].rx = some 3 ∧
      (closing.dx[(1 : InstId)].olen = some 7 ∧ 3 ≤ (closing.octets 3).length ∧ crc16 (closing.octets 3) = 0x0F47) ∧
      (receiving { ones := 6, olen := none, oacc := 0, rx := none }).dx[(0 : InstId)].rx = none ∧
      ¬ (receiving { ones := 6, olen := some 6, oacc := 0, rx := some 0 }).dx[(0 : InstId)].olen = some 7 := by decide +kernel

theorem witness_ReceptionExhaustionIsCounted :
    let d : Destuffer := { ones := 0, olen := some 7, oacc := 0, rx := none }
    let noSlot : State := { receiving d with free := [] }
    let noFirstChunk : State := { receiving d with freeChunks := 0 }
    let noChunk : State := { receiving { d with rx := some 0 } with freeChunks := 0 }
    (IsDataBit d.ones true ∧ noSlot.dx[(0 : InstId)] = d ∧ noSlot.free = []) ∧
      (noFirstChunk.dx[(0 : InstId)] = d ∧ noFirstChunk.free = 0 :: (List.finRange 48).tail ∧
        noFirstChunk.slots[(0 : Handle)] = Slot.reset ∧ noFirstChunk.freeChunks = 0) ∧
      noChunk.dx[(0 : InstId)].olen = some 7 ∧ noChunk.dx[(0 : InstId)].rx = some 0 ∧
      (noChunk.octets 0).length % Config.chunkSize = 0 ∧ noChunk.freeChunks = 0 := ⟨⟨.inl ⟨rfl, by decide⟩, rfl, rfl⟩, ⟨rfl, rfl, rfl, rfl⟩, rfl, rfl, Nat.zero_mod _, rfl⟩

/-- R154's ceiling has a count that reaches the length. -/
theorem witness_ChunkCountIsCeiling :
    (1 : Nat) ≤ 1 * Config.chunkSize := by have := chunkSize_pos; omega

theorem witness_FrameAcquireRule :
    (Ready allHost ∧ allHost.free = []) ∧ Ready booted ∧ booted.free = 0 :: (List.finRange 48).tail := ⟨⟨⟨rfl, rfl⟩, rfl⟩, booted_ready, rfl⟩

theorem witness_FrameReleaseRule :
    Ready (holding [0x41]) ∧ HostFrame (holding [0x41]) 0 0 ∧ BadHandle (holding [0x41]) 48 ∧ BadHandle (holding [0x41]) 1 := ⟨holding_ready _, holding_frame _, .inl (by decide), .inr ⟨1, rfl, by decide⟩⟩

theorem witness_FrameClearRule :
    Ready (holding [0x41]) ∧ HostFrame (holding [0x41]) 0 0 ∧ BadHandle (holding [0x41]) 48 ∧ BadHandle (holding [0x41]) 1 := ⟨holding_ready _, holding_frame _, .inl (by decide), .inr ⟨1, rfl, by decide⟩⟩

theorem witness_FrameReadersRule :
    Ready (holding [0x41]) ∧ HostFrame (holding [0x41]) 0 0 ∧ BadHandle (holding [0x41]) 48 ∧ BadHandle (holding [0x41]) 1 := ⟨holding_ready _, holding_frame _, .inl (by decide), .inr ⟨1, rfl, by decide⟩⟩

theorem witness_FrameSetMetaRule :
    Ready (holding [0x41]) ∧ HostFrame (holding [0x41]) 0 0 ∧ BadHandle (holding [0x41]) 48 ∧ BadHandle (holding [0x41]) 1 := ⟨holding_ready _, holding_frame _, .inl (by decide), .inr ⟨1, rfl, by decide⟩⟩

theorem witness_ReleaseThenAcquireIsLifo :
    Ready (holding [0x41]) ∧ HostFrame (holding [0x41]) 0 0 ∧ BadHandle (holding [0x41]) 48 ∧ BadHandle (holding [0x41]) 1 := ⟨holding_ready _, holding_frame _, .inl (by decide), .inr ⟨1, rfl, by decide⟩⟩

theorem witness_FrameAppendRule :
    let noChunk : State := { holding [] with freeChunks := 0 }
    (Ready noChunk ∧ HostFrame noChunk 0 0 ∧ (noChunk.octets 0).length % Config.chunkSize = 0 ∧ noChunk.freeChunks = 0) ∧
      Ready (holding []) ∧ HostFrame (holding []) 0 0 ∧ (holding []).freeChunks ≠ 0 := ⟨⟨⟨rfl, rfl⟩, ⟨rfl, rfl⟩, Nat.zero_mod _, rfl⟩, holding_ready _, holding_frame _, by simp [holding]⟩

theorem witness_FrameReadRule :
    Ready (holding [0x41]) ∧ HostFrame (holding [0x41]) 0 0 ∧ 0 < ((holding [0x41]).octets 0).length ∧
      ((holding [0x41]).octets 0).length ≤ 1 := ⟨holding_ready _, holding_frame _, by decide, by decide⟩

theorem witness_FrameParseFcsRule :
    (HostFrame (holding [0x41]) 0 0 ∧ ((holding [0x41]).octets 0).length < 2) ∧ Ready (holding [0xF5, 0xA3]) ∧
      HostFrame (holding [0xF5, 0xA3]) 0 0 ∧ (holding [0xF5, 0xA3]).octets 0 = [] ++ [0xF5, 0xA3] := ⟨⟨holding_frame _, by decide⟩, holding_ready _, holding_frame _, rfl⟩

theorem witness_FrameAddFcsRule :
    let noChunk : State := { holding [] with freeChunks := 0 }
    (Ready noChunk ∧ HostFrame noChunk 0 0 ∧ noChunk.freeChunks + chunks (noChunk.octets 0).length <
      chunks ((noChunk.octets 0).length + 2)) ∧ Ready (holding []) ∧ HostFrame (holding []) 0 0 ∧
      chunks (((holding []).octets 0).length + 2) ≤ (holding []).freeChunks + chunks ((holding []).octets 0).length := by
  have h1 := chunks_pos (n := 2) (by decide)
  have h2 := chunks_le 2
  refine ⟨⟨⟨rfl, rfl⟩, ⟨rfl, rfl⟩, ?_⟩, holding_ready _, holding_frame _, ?_⟩
  · show 0 + chunks 0 < chunks 2
    simpa using h1
  · show chunks 2 ≤ 48 - chunks 0 + chunks 0
    simp
    omega

theorem allHost_pool : PoolInv allHost := by
  have hs : ∀ f : Handle, allHost.slots[f] = { Slot.reset with owner := .host } := by
    intro f
    simp [allHost]
  refine ⟨⟨List.nodup_nil, fun f => ?_⟩, ?_, fun f hf => ?_, fun i f => ?_⟩
  · rw [hs f]
    simp [allHost]
  · have : chunksHeld allHost = 0 := by
      unfold chunksHeld State.octets
      simp [hs, Slot.reset]
    show 48 + chunksHeld allHost = 48
    omega
  · rw [hs f] at hf
    cases hf
  · rw [hs f]
    simp [allHost, booted, State.reset, Destuffer.reset]

theorem witness_HdlcStuffRule :
    (Ready allHost ∧ PoolInv allHost ∧ HostFrame allHost 0 0 ∧ allHost.free = []) ∧
      Ready (holding []) ∧ PoolInv (holding []) ∧ HostFrame (holding []) 0 0 ∧
      (holding []).free = 1 :: (List.finRange 48).tail.tail ∧
      chunks (stuff ((holding []).octets 0)).length ≤ (holding []).freeChunks := by
  refine ⟨⟨⟨rfl, rfl⟩, allHost_pool, ⟨rfl, ?_⟩, rfl⟩, holding_ready _, holding_pool [] (by simp), holding_frame _, by decide, ?_⟩
  · simp [allHost]
  · have h1 := chunks_le 2
    show chunks 2 ≤ 48 - chunks 0
    simp
    omega

theorem witness_AddThenParseIsOk :
    ∃ t, Ready (holding [0x41]) ∧ HostFrame (holding [0x41]) 0 0 ∧ exec (.frameAddFcs 0) (holding [0x41]) = .next t ∧
      t.status = 0x00 := ⟨_, holding_ready _, holding_frame _, addFcs_41, rfl⟩

theorem witness_StuffDestuffRoundTrip :
    booted.dx[(0 : InstId)] = { ones := 0, olen := none, oacc := 0, rx := none } ∧
      3 ≤ [0x41, 0xF5, (0xA3 : Byte)].length ∧ residue [0x41, 0xF5, 0xA3] = 0x0F47 ∧
      booted.free = 0 :: (List.finRange 48).tail ∧ booted.slots[(0 : Handle)] = Slot.reset ∧
      chunks [0x41, 0xF5, (0xA3 : Byte)].length ≤ booted.freeChunks := by
  refine ⟨rfl, by decide, by decide +kernel, rfl, rfl, ?_⟩
  have := chunks_le 3
  show chunks 3 ≤ 48
  omega

theorem witness_PickModeRule :
    Ready booted ∧ (32 : Nat) ≤ 32 ∧ (33 ≤ 33 ∧ 64 ≤ 64) ∧ (65 ≤ 65 ∧ 128 ≤ 128) ∧ (129 ≤ 129 ∧ 191 ≤ 191) ∧
      (192 ≤ 192 ∧ 223 ≤ 223) ∧ (224 ≤ 224 ∧ 239 ≤ 239) ∧ 240 ≤ 511 := ⟨booted_ready, by decide⟩

theorem witness_TagRule :
    Ready booted ∧ ((1 : Nat) ≤ 11 ∧ 11 ≤ 11) ∧ 12 ≤ 12 := ⟨booted_ready, by decide⟩

theorem witness_TagSelftestRule :
    Ready booted ∧ popcount (tagAt [] 1 ^^^ tagAt [] 2) ≠ 32 := ⟨booted_ready, by decide⟩

/-- Mode 4 (data 32, block 48) completes, mode 3 (data 64) has the wrong length. -/
theorem witness_RsEncodeRule :
    let s : State := withTables (holding (List.replicate 32 0))
    Ready s ∧ TablesBuilt s ∧ HostFrame s 0 0 ∧ (s.octets 0).length = 32 ∧ (s.octets 0).length ≠ 64 ∧
      chunks 48 ≤ s.freeChunks + chunks 32 := by
  refine ⟨⟨rfl, rfl⟩, withTables_built _, ⟨rfl, rfl⟩, by decide, by decide, ?_⟩
  · have h1 := chunks_le 48
    have h2 := chunks_le 32
    show chunks 48 ≤ 48 - chunks 32 + chunks 32
    omega

/-- The parity needs a chunk more where CHUNK_SIZE is small; with large chunks it never does (R157). -/
theorem witness_RsEncodeRule_exhausted :
    Config.chunkSize ≤ 16 →
    let s : State := { withTables (holding (List.replicate 32 0)) with freeChunks := 0 }
    Ready s ∧ HostFrame s 0 0 ∧ (s.octets 0).length = 32 ∧ s.freeChunks + chunks 32 < chunks 48 := by
  intro hc
  refine ⟨⟨rfl, rfl⟩, ⟨rfl, rfl⟩, by decide, ?_⟩
  show 0 + chunks 32 < chunks 48
  have hp := chunkSize_pos
  have h : chunks 32 + 1 ≤ chunks 48 := by
    unfold chunks
    rw [← Nat.add_div_right _ hp]
    exact Nat.div_le_div_right (by omega)
  omega

theorem witness_TableReadRules :
    Ready booted ∧ (0, Code.p16) ∈ [(0, Code.p16), (1, .p32), (2, .p64)] ∧ 16 ≤ Code.p16.parity ∧
      (booted.genpoly .p16)[16]? = some 0 ∧ TablesBuilt running ∧ Ready running := ⟨booted_ready, by decide, by decide, rfl, running_inv.2.2.2.2.2, running_ready⟩

theorem witness_TableMultiplicationIsFieldMultiplication :
    (0x02 : Byte) ≠ 0 := by decide

theorem witness_CodewordHasTheGeneratorRoots :
    (1 : Nat) ≤ 1 ∧ 1 ≤ Code.p16.parity ∧ 64 ≤ Code.p64.parity := by decide

theorem witness_ParityIsLinear :
    [(0x01 : Byte)].length = [(0x02 : Byte)].length := rfl


end Sys2Proof.Tests
end

section
/-!
SUPPORT. The pools while the bank holds finished frames that no destuffer receives into any more: R37 and R33, and how
each pool operation keeps them (spec/10_state.md R33-R37; spec/42_hdlc.md R153-R158).
-/

namespace Sys2Proof.Proofs

open Sys2Proof.Machine Sys2Proof.Safety

/-! ## Slots and chunks -/

theorem getElem_vectorSet {α : Type} {n : Nat} (v : Vector α n) (i j : Fin n) (x : α) :
    (v.set i x)[j] = if j = i then x else v[j] := by
  simp only [Fin.getElem_fin, Vector.getElem_set, Fin.ext_iff, eq_comm]

theorem chunkSize_pos : 0 < Config.chunkSize := by unfold Config.chunkSize; omega

/-- A longer frame holds at least as many chunks. -/
theorem chunks_mono {m n : Nat} (h : m ≤ n) : chunks m ≤ chunks n := Nat.div_le_div_right (by omega)

/-- One octet more needs a chunk more exactly at a multiple of CHUNK_SIZE (R36, R157). -/
theorem chunks_succ (len : Nat) : chunks (len + 1) = chunks len + (if len % Config.chunkSize = 0 then 1 else 0) := by
  have hpos := chunkSize_pos
  have hdvd : Config.chunkSize ∣ len + Config.chunkSize ↔ len % Config.chunkSize = 0 := by
    rw [Nat.dvd_add_self_right, Nat.dvd_iff_mod_eq_zero]
  unfold chunks
  rw [show len + 1 + Config.chunkSize - 1 = len + Config.chunkSize - 1 + 1 by omega, Nat.succ_div,
    show len + Config.chunkSize - 1 + 1 = len + Config.chunkSize by omega]
  simp only [hdvd]

/-- The chunks a slot holds: none while it is FREE. -/
def chunksOf (v : Slot) : Nat := if v.owner = .free then 0 else chunks v.octets.length

theorem chunksOf_of_held {v : Slot} (h : v.owner ≠ .free) : chunksOf v = chunks v.octets.length := if_neg h

theorem chunksHeld_eq_sum (s : State) : chunksHeld s = ∑ h : Handle, chunksOf s.slots[h] :=
  (Fin.sum_univ_def _).symm

/-- Writing one slot changes the chunks held by what that slot held and holds. -/
theorem chunksHeld_set {s t : State} {h : Handle} {v : Slot} (ht : t.slots = s.slots.set h v) :
    chunksHeld t + chunksOf s.slots[h] = chunksHeld s + chunksOf v := by
  have others :
      ∑ g ∈ Finset.univ.erase h, chunksOf t.slots[g] = ∑ g ∈ Finset.univ.erase h, chunksOf s.slots[g] :=
    Finset.sum_congr rfl fun g hg => by rw [ht, slots_set_ne _ _ _ _ (Finset.ne_of_mem_erase hg)]
  have hs := Finset.add_sum_erase Finset.univ (fun g : Handle => chunksOf s.slots[g]) (Finset.mem_univ h)
  have ht' := Finset.add_sum_erase Finset.univ (fun g : Handle => chunksOf t.slots[g]) (Finset.mem_univ h)
  have hv : chunksOf t.slots[h] = chunksOf v := by rw [ht, slots_set_self]
  rw [chunksHeld_eq_sum, chunksHeld_eq_sum]
  omega

theorem chunksExact_set {s t : State} {h : Handle} {v : Slot} (hs : ChunksExact s) (ht : t.slots = s.slots.set h v)
    (hc : t.freeChunks + chunksOf v = s.freeChunks + chunksOf s.slots[h]) : ChunksExact t := by
  have := chunksHeld_set ht
  unfold ChunksExact at *
  omega

/-! ## The pools with loose frames -/

/-- The pools are sound (R37) and so are the destuffers (R33), when the slots in `loose` are frames that are closed and
not yet handed to the host or released: a demodulator owns them, no destuffer receives into them. -/
structure PoolSound (loose : List Handle) (s : State) : Prop where
  freeList : FreeListExact s
  chunksExact : ChunksExact s
  freeClear : FreeSlotsClear s
  ownership : ∀ (i : InstId) (h : Handle), s.dx[i].rx = some h ↔ s.slots[h].owner = .rx i ∧ h ∉ loose
  ranges : ∀ i : InstId, DestufferRanges s.dx[i]
  nodup : loose.Nodup
  owned : ∀ h ∈ loose, ∃ i : InstId, s.slots[h].owner = .rx i

/-- Between commands no frame is loose. -/
theorem poolSound_nil_iff {s : State} :
    PoolSound [] s ↔ PoolInv s ∧ ∀ i : InstId, DestufferRanges s.dx[i] := by
  constructor
  · intro hp
    exact ⟨⟨hp.freeList, hp.chunksExact, hp.freeClear, fun i h => by simpa using hp.ownership i h⟩, hp.ranges⟩
  · rintro ⟨⟨hfree, hchunks, hclear, howner⟩, hranges⟩
    exact ⟨hfree, hchunks, hclear, fun i h => by simpa using howner i h, hranges, List.nodup_nil, by simp⟩

namespace PoolSound

variable {s t : State} {loose : List Handle} {h : Handle} {i : InstId}

/-- The pool invariants read the slots, the two pools and the destuffers only. -/
theorem congr (hp : PoolSound loose s) (hslots : t.slots = s.slots) (hfree : t.free = s.free)
    (hchunks : t.freeChunks = s.freeChunks) (hdx : t.dx = s.dx) : PoolSound loose t := by
  obtain ⟨⟨hnd, hmem⟩, hc, hcl, how, hr, hl, ho⟩ := hp
  refine ⟨⟨hfree ▸ hnd, ?_⟩, ?_, ?_, ?_, ?_, hl, ?_⟩
  · intro g; rw [hfree, hslots]; exact hmem g
  · have : chunksHeld t = chunksHeld s := by rw [chunksHeld_eq_sum, chunksHeld_eq_sum, hslots]
    unfold ChunksExact at *
    omega
  · intro g; rw [hslots]; exact hcl g
  · intro j g; rw [hdx, hslots]; exact how j g
  · intro j; rw [hdx]; exact hr j
  · intro g; rw [hslots]; exact ho g

/-- The order of the loose frames does not matter. -/
theorem perm {loose' : List Handle} (hp : PoolSound loose s) (hl : loose.Perm loose') : PoolSound loose' s :=
  { hp with
    ownership := fun i h => by rw [hp.ownership, hl.mem_iff]
    nodup := hl.nodup_iff.mp hp.nodup
    owned := fun h hh => hp.owned h (hl.mem_iff.mpr hh) }

/-- A loose frame is no destuffer's. -/
theorem not_rx_of_loose (hp : PoolSound loose s) (hh : h ∈ loose) (j : InstId) : s.dx[j].rx ≠ some h := fun e =>
  ((hp.ownership j h).mp e).2 hh

theorem ne_free_of_loose (hp : PoolSound loose s) (hh : h ∈ loose) : s.slots[h].owner ≠ .free := by
  obtain ⟨j, hj⟩ := hp.owned h hh
  rw [hj]
  exact Owner.noConfusion

/-- Rewriting a slot that is not FREE, with its owner kept and its chunks accounted for. -/
theorem setSlot {v : Slot} (hp : PoolSound loose s) (hne : s.slots[h].owner ≠ .free)
    (hslots : t.slots = s.slots.set h v) (howner : v.owner = s.slots[h].owner)
    (hchunks : t.freeChunks + chunks v.octets.length = s.freeChunks + chunks (s.octets h).length)
    (hfree : t.free = s.free) (hdx : t.dx = s.dx) : PoolSound loose t := by
  have owners : ∀ g : Handle, t.slots[g].owner = s.slots[g].owner := by
    intro g
    rw [hslots, getElem_vectorSet]
    split
    · next e => subst e; exact howner
    · rfl
  refine ⟨⟨hfree ▸ hp.freeList.1, ?_⟩, ?_, ?_, ?_, ?_, hp.nodup, ?_⟩
  · intro g; rw [hfree, owners]; exact hp.freeList.2 g
  · refine chunksExact_set hp.chunksExact hslots ?_
    rw [chunksOf_of_held hne, chunksOf_of_held (howner ▸ hne)]
    exact hchunks
  · intro g hg
    rw [owners] at hg
    have : g ≠ h := by rintro rfl; exact hne hg
    rw [hslots, slots_set_ne _ _ _ _ this]
    exact hp.freeClear g hg
  · intro j g; rw [hdx, owners]; exact hp.ownership j g
  · intro j; rw [hdx]; exact hp.ranges j
  · intro g hg; rw [owners]; exact hp.owned g hg

/-- Releasing a slot that no destuffer receives into; it is then not loose either (R156). -/
theorem poolRelease (hp : PoolSound loose s) (hne : s.slots[h].owner ≠ .free)
    (hrx : ∀ j : InstId, s.dx[j].rx ≠ some h) :
    PoolSound (loose.erase h) (s.poolRelease h) := by
  have hmem : ∀ g, g ∈ loose.erase h ↔ g ≠ h ∧ g ∈ loose := fun g => hp.nodup.mem_erase_iff
  have slot : ∀ g : Handle, (s.poolRelease h).slots[g] = if g = h then Slot.reset else s.slots[g] := by
    intro g; rw [State.poolRelease_slots, getElem_vectorSet]
  refine ⟨⟨?_, ?_⟩, ?_, ?_, ?_, ?_, hp.nodup.erase h, ?_⟩
  · rw [State.poolRelease_free]
    exact List.nodup_cons.mpr ⟨fun hh => hne ((hp.freeList.2 h).mp hh), hp.freeList.1⟩
  · intro g
    rw [State.poolRelease_free, slot, List.mem_cons, hp.freeList.2 g]
    split
    · next e => simp [e, Slot.reset]
    · next e => simp [e]
  · refine chunksExact_set hp.chunksExact (State.poolRelease_slots s h) ?_
    rw [chunksOf_of_held hne, State.poolRelease_freeChunks]
    rfl
  · intro g hg
    rw [slot] at hg ⊢
    split
    · rfl
    · next e => rw [if_neg e] at hg; exact hp.freeClear g hg
  · intro j g
    rw [State.poolRelease_dx, slot, hmem]
    split
    · next e => subst e; simpa [Slot.reset, -Fin.getElem_fin] using hrx j
    · next e => simpa [e, -Fin.getElem_fin] using hp.ownership j g
  · intro j; rw [State.poolRelease_dx]; exact hp.ranges j
  · intro g hg
    obtain ⟨hgh, hgl⟩ := (hmem g).mp hg
    rw [slot, if_neg hgh]
    exact hp.owned g hgl

/-- Releasing a loose frame (R130, R131, R177). -/
theorem releaseLoose (hp : PoolSound (h :: loose) s) : PoolSound loose (s.poolRelease h) := by
  have hh : h ∈ h :: loose := List.mem_cons_self
  simpa using hp.poolRelease (hp.ne_free_of_loose hh) (hp.not_rx_of_loose hh)

/-- Releasing a host frame (R181). -/
theorem releaseHost (hp : PoolSound loose s) (ho : s.slots[h].owner = .host) : PoolSound loose (s.poolRelease h) := by
  have hl : h ∉ loose := fun hh => by
    obtain ⟨j, hj⟩ := hp.owned h hh
    rw [ho] at hj
    cases hj
  have hrx : ∀ j : InstId, s.dx[j].rx ≠ some h := fun j e => by
    have hj := ((hp.ownership j h).mp e).1
    rw [ho] at hj
    cases hj
  simpa [List.erase_of_not_mem hl] using hp.poolRelease (by rw [ho]; exact Owner.noConfusion) hrx

/-- A loose frame handed to the host (R132, R145). -/
theorem handOver (hp : PoolSound (h :: loose) s) : PoolSound loose (s.setOwner h .host) := by
  have hne := hp.ne_free_of_loose (h := h) (by simp)
  have hl : h ∉ loose := (List.nodup_cons.mp hp.nodup).1
  have owner : ∀ g : Handle, (s.setOwner h .host).slots[g].owner = if g = h then .host else s.slots[g].owner := by
    intro g; rw [State.setOwner_slots, getElem_vectorSet]; split <;> rfl
  refine ⟨⟨hp.freeList.1, ?_⟩, ?_, ?_, ?_, hp.ranges, hp.nodup.tail, ?_⟩
  · intro g
    rw [owner, State.setOwner_free, hp.freeList.2 g]
    split
    · next e => subst e; simpa [-Fin.getElem_fin] using hne
    · rfl
  · refine chunksExact_set hp.chunksExact (State.setOwner_slots s h .host) ?_
    rw [chunksOf_of_held hne, chunksOf_of_held (by simp)]
    rfl
  · intro g hg
    rw [owner] at hg
    split at hg
    · cases hg
    · next e =>
      rw [State.setOwner_slots, slots_set_ne _ _ _ _ e]
      exact hp.freeClear g hg
  · intro j g
    rw [owner, State.setOwner_dx, hp.ownership j g, List.mem_cons]
    split
    · next e => simp [e]
    · next e => simp [e]
  · intro g hg
    rw [owner, if_neg (by rintro rfl; exact hl hg)]
    exact hp.owned g (List.mem_cons_of_mem h hg)

/-- PoolAcquire hands out a clear slot (R155). -/
theorem acquired_clear (hp : PoolSound loose s) {o : Owner} (ha : s.poolAcquire o = some (h, t)) :
    s.slots[h] = Slot.reset ∧ t.slots = s.slots.set h { Slot.reset with owner := o } := by
  obtain ⟨hfree, ht⟩ := poolAcquire_eq_some ha
  have hclear : s.slots[h] = Slot.reset := hp.freeClear h ((hp.freeList.2 h).mp (by simp [hfree]))
  refine ⟨hclear, ?_⟩
  rw [ht, hclear]

/-- A slot acquired for a demodulator is loose until its destuffer holds it (R176). -/
theorem acquireRx (hp : PoolSound loose s) (ha : s.poolAcquire (.rx i) = some (h, t)) : PoolSound (h :: loose) t := by
  obtain ⟨hfree, ht⟩ := poolAcquire_eq_some ha
  obtain ⟨hclear, hslots⟩ := hp.acquired_clear ha
  have hdx : t.dx = s.dx := by rw [ht]
  have hchunks : t.freeChunks = s.freeChunks := by rw [ht]
  have hofree : s.slots[h].owner = .free := by rw [hclear]; rfl
  have hl : h ∉ loose := fun hh => hp.ne_free_of_loose hh hofree
  have hnd : (h :: t.free).Nodup := hfree ▸ hp.freeList.1
  have slot : ∀ g : Handle, t.slots[g] = if g = h then { Slot.reset with owner := .rx i } else s.slots[g] := by
    intro g; rw [hslots, getElem_vectorSet]
  refine ⟨⟨hnd.tail, ?_⟩, ?_, ?_, ?_, ?_, List.nodup_cons.mpr ⟨hl, hp.nodup⟩, ?_⟩
  · intro g
    have hg := hp.freeList.2 g
    rw [hfree, List.mem_cons] at hg
    rw [slot]
    split
    · next e => subst e; simpa using (List.nodup_cons.mp hnd).1
    · next e => simpa [e] using hg
  · refine chunksExact_set hp.chunksExact hslots ?_
    rw [hchunks, hclear]
    simp [chunksOf, Slot.reset]
  · intro g hg
    rw [slot] at hg ⊢
    split
    · next e => simp [e] at hg
    · next e => rw [if_neg e] at hg; exact hp.freeClear g hg
  · intro j g
    rw [hdx, hp.ownership j g, slot, List.mem_cons]
    split
    · next e => subst e; simp [hofree, -Fin.getElem_fin]
    · next e => simp [e]
  · intro j; rw [hdx]; exact hp.ranges j
  · intro g hg
    rw [slot]
    split
    · exact ⟨i, rfl⟩
    · next e => exact hp.owned g ((List.mem_cons.mp hg).resolve_left e)

/-- A slot acquired for the host (R180, R194): as if a demodulator had acquired it and handed it over. -/
theorem acquireHost (hp : PoolSound loose s) (ha : s.poolAcquire .host = some (h, t)) : PoolSound loose t := by
  obtain ⟨hfree, ht⟩ := poolAcquire_eq_some ha
  have hrx : s.poolAcquire (.rx 0) = some (h, { s with free := t.free }.setOwner h (.rx 0)) := by
    unfold State.poolAcquire; rw [hfree]
  rw [ht]
  exact (hp.acquireRx hrx).handOver.congr (by simp) rfl rfl rfl

/-- A destuffer changes and keeps its frame. -/
theorem setDx {d : Destuffer} (hp : PoolSound loose s) (hd : DestufferRanges d) (hrx : d.rx = s.dx[i].rx) :
    PoolSound loose (s.setDx i d) := by
  refine { hp with ownership := ?_, ranges := ?_ }
  · intro j g
    rw [State.setDx_dx, getElem_vectorSet]
    split
    · next e => subst e; rw [hrx]; exact hp.ownership j g
    · exact hp.ownership j g
  · intro j
    rw [State.setDx_dx, getElem_vectorSet]
    split
    · exact hd
    · exact hp.ranges j

/-- A destuffer lets its frame go: the frame is loose. -/
theorem detach {d : Destuffer} (hp : PoolSound loose s) (hd : DestufferRanges d) (hrx : s.dx[i].rx = some h)
    (hnone : d.rx = none) : PoolSound (h :: loose) (s.setDx i d) := by
  obtain ⟨howner, hl⟩ := (hp.ownership i h).mp hrx
  refine ⟨hp.freeList, hp.chunksExact, hp.freeClear, ?_, ?_, List.nodup_cons.mpr ⟨hl, hp.nodup⟩, ?_⟩
  · intro j g
    rw [State.setDx_dx, State.setDx_slots, getElem_vectorSet, List.mem_cons]
    have hg := hp.ownership j g
    split
    · next e =>
      subst e
      rw [hrx] at hg
      by_cases hgh : g = h
      · simp [hnone, hgh]
      · simpa [hnone, hgh, Ne.symm hgh, -Fin.getElem_fin] using hg
    · next e =>
      rw [hg]
      by_cases hgh : g = h
      · subst hgh; simp [howner, Ne.symm e, -Fin.getElem_fin]
      · simp [hgh]
  · intro j
    rw [State.setDx_dx, getElem_vectorSet]
    split
    · exact hd
    · exact hp.ranges j
  · intro g hg
    rcases List.mem_cons.mp hg with rfl | hg
    · exact ⟨i, howner⟩
    · exact hp.owned g hg

/-- A destuffer with no frame takes up a loose one of its demodulator (R176). -/
theorem attach {d : Destuffer} (hp : PoolSound (h :: loose) s) (hd : DestufferRanges d)
    (howner : s.slots[h].owner = .rx i) (hnone : s.dx[i].rx = none) (hrx : d.rx = some h) :
    PoolSound loose (s.setDx i d) := by
  have hl : h ∉ loose := (List.nodup_cons.mp hp.nodup).1
  refine ⟨hp.freeList, hp.chunksExact, hp.freeClear, ?_, ?_, hp.nodup.tail, ?_⟩
  · intro j g
    rw [State.setDx_dx, State.setDx_slots, getElem_vectorSet]
    have hg := hp.ownership j g
    rw [List.mem_cons] at hg
    split
    · next e =>
      subst e
      rw [hnone] at hg
      by_cases hgh : g = h
      · subst hgh; simp [hrx, howner, hl, -Fin.getElem_fin]
      · simpa [hrx, hgh, Ne.symm hgh, -Fin.getElem_fin] using hg
    · next e =>
      rw [hg]
      by_cases hgh : g = h
      · subst hgh; simp [howner, Ne.symm e, -Fin.getElem_fin]
      · simp [hgh]
  · intro j
    rw [State.setDx_dx, getElem_vectorSet]
    split
    · exact hd
    · exact hp.ranges j
  · intro g hg
    exact hp.owned g (List.mem_cons_of_mem h hg)

end PoolSound

end Sys2Proof.Proofs
end

section
/-!
SUPPORT. Reception and the bank keep the pools sound: every operation of spec/42_hdlc.md R175-R178 and
spec/41_demod_bank.md R120-R132 from its pool operations.
-/

namespace Sys2Proof.Proofs

open Sys2Proof.Machine Sys2Proof.Safety

/-- The frame a flag closes is dealt with before the destuffer is touched (R177). -/
theorem closeRx_dx (s : State) (i : InstId) : (s.closeRx i).2.dx = s.dx := by
  unfold State.closeRx
  split
  · rfl
  · split
    · dsimp only
      split <;> simp [State.parseFcs_eq]
    · simp

/-- What restarting one demodulator keeps, DEMOD_START's loop keeps (R141). -/
theorem restartAll_keeps {p : State → Prop} {tw : Nat} (hp : ∀ t i, p t → p (State.restartInstance tw t i))
    (is : List InstId) : ∀ s, p s → p (is.foldl (State.restartInstance tw) s) := by
  induction is with
  | nil => exact fun _ hs => hs
  | cons i rest ih => exact fun s hs => ih _ (hp s i hs)

namespace PoolSound

variable {s t : State} {loose : List Handle} {h : Handle} {i : InstId}

/-! ## Frames -/

theorem ne_free_of_rx (hp : PoolSound loose s) (hrx : s.dx[i].rx = some h) : s.slots[h].owner ≠ .free := by
  rw [((hp.ownership i h).mp hrx).1]
  exact Owner.noConfusion

/-- FrameAppend draws the chunk its octet needs (R157). -/
theorem frameAppend {b : Byte} (hp : PoolSound loose s) (hne : s.slots[h].owner ≠ .free)
    (ha : s.frameAppend h b = some t) : PoolSound loose t := by
  obtain ⟨hroom, rfl⟩ := frameAppend_eq_some ha
  refine hp.setSlot hne rfl rfl ?_ rfl rfl
  simp only [List.length_append, List.length_singleton, chunks_succ]
  split
  · next hz => have := hroom hz; omega
  · omega

/-- FrameAppendN draws the chunks its octets need (R158). -/
theorem frameAppendN {bs : List Byte} (hp : PoolSound loose s) (hne : s.slots[h].owner ≠ .free)
    (ha : s.frameAppendN h bs = some t) : PoolSound loose t := by
  obtain ⟨hroom, rfl⟩ := frameAppendN_eq_some ha
  refine hp.setSlot hne rfl rfl ?_ rfl rfl
  have := chunks_mono (Nat.le_add_right (s.octets h).length bs.length)
  simp only [List.length_append]
  omega

theorem addFcs (hp : PoolSound loose s) (hne : s.slots[h].owner ≠ .free) (ha : s.addFcs h = some t) :
    PoolSound loose t := by
  obtain ⟨hroom, rfl⟩ := addFcs_eq_some ha
  refine hp.setSlot hne rfl rfl ?_ rfl rfl
  have := chunks_mono (Nat.le_add_right (s.octets h).length 2)
  dsimp only
  rw [List.length_append, show (fcsOctets (crc16 (s.octets h))).length = 2 from rfl]
  omega

theorem clear (hp : PoolSound loose s) (hne : s.slots[h].owner ≠ .free) : PoolSound loose (s.clear h) :=
  hp.setSlot hne rfl rfl (by simp [Slot.reset]) rfl rfl

theorem parseFcs (hp : PoolSound loose s) (hne : s.slots[h].owner ≠ .free) : PoolSound loose (s.parseFcs h) :=
  hp.setSlot hne rfl rfl rfl rfl rfl

/-! ## Reception -/

/-- A destuffer's frame released, the destuffer left without one. -/
theorem releaseRx {d : Destuffer} (hp : PoolSound loose s) (hrx : s.dx[i].rx = some h) (hd : DestufferRanges d)
    (hnone : d.rx = none) : PoolSound loose ((s.poolRelease h).setDx i d) :=
  (hp.detach hd hrx hnone).releaseLoose.congr rfl rfl rfl rfl

theorem dropRx (hp : PoolSound loose s) (hrx : s.dx[i].rx = none) : PoolSound loose (s.dropRx i) :=
  (hp.setDx (d := { s.dx[i] with olen := none }) ⟨(hp.ranges i).1, by simp, fun _ => hrx⟩ rfl).congr rfl rfl rfl rfl

theorem storeRxOctet {o : Byte} (hp : PoolSound loose s) (hrx : s.dx[i].rx = some h) :
    PoolSound loose (s.storeRxOctet i h o) := by
  unfold State.storeRxOctet
  split
  · next t ht => exact hp.frameAppend (hp.ne_free_of_rx hrx) ht
  · have hd : DestufferRanges { (s.poolRelease h).dx[i] with rx := none } := by
      rw [State.poolRelease_dx]
      exact ⟨(hp.ranges i).1, (hp.ranges i).2.1, fun _ => rfl⟩
    have hreleased := hp.releaseRx hrx hd rfl
    refine hreleased.dropRx ?_
    rw [State.setDx_dx, dx_set_self]

theorem rxOctet {o : Byte} (hp : PoolSound loose s) (holen : s.dx[i].olen ≠ none) :
    PoolSound loose (s.rxOctet i o) := by
  unfold State.rxOctet
  split
  · next h hrx => exact hp.storeRxOctet hrx
  · next hrx =>
    split
    · exact hp.dropRx hrx
    · next h t ha =>
      have hdx : t.dx = s.dx := by rw [(poolAcquire_eq_some ha).2]
      have howner : t.slots[h].owner = .rx i := by rw [(hp.acquired_clear ha).2, slots_set_self]
      have hd : DestufferRanges { t.dx[i] with rx := some h } := by
        rw [hdx]
        exact ⟨(hp.ranges i).1, (hp.ranges i).2.1, fun e => absurd e holen⟩
      exact ((hp.acquireRx ha).attach hd howner (by rw [hdx]; exact hrx) rfl).storeRxOctet (by simp)

theorem dataBit {v : Bool} (hp : PoolSound loose s) : PoolSound loose (s.dataBit i v) := by
  obtain ⟨hones, holen, -⟩ := hp.ranges i
  unfold State.dataBit
  split
  · exact hp
  · next n hn =>
    have hle := holen n hn
    dsimp only
    split
    · refine PoolSound.rxOctet (hp.setDx ⟨hones, ?_, ?_⟩ rfl) ?_
      · simp
      · simp
      · simp
    · refine hp.setDx ⟨hones, ?_, ?_⟩ rfl
      · simp only [Option.some.injEq, forall_eq']; omega
      · simp

theorem abort (hp : PoolSound loose s) : PoolSound loose (s.abort i) := by
  obtain ⟨hones, -, -⟩ := hp.ranges i
  unfold State.abort
  split
  · next h hrx =>
    have hd : DestufferRanges { (s.poolRelease h).dx[i] with olen := none, rx := none } := by
      rw [State.poolRelease_dx]
      exact ⟨hones, by simp, fun _ => rfl⟩
    exact hp.releaseRx hrx hd rfl
  · next hrx => exact hp.setDx ⟨hones, by simp, fun _ => rfl⟩ hrx.symm

/-- What the flag does with the frame, the destuffer then left without one: a frame handed on is loose, and none else is
(R177). -/
theorem closeRx {d : Destuffer} (hp : PoolSound loose s) (hd : DestufferRanges d) (hnone : d.rx = none) :
    PoolSound ((s.closeRx i).1.toList ++ loose) ((s.closeRx i).2.setDx i d) := by
  unfold State.closeRx
  split
  · next hrx => exact hp.setDx hd (hnone.trans hrx.symm)
  · next h hrx =>
    split
    · have hparse := hp.parseFcs (hp.ne_free_of_rx hrx)
      dsimp only
      split
      · have hmeta : PoolSound loose ((s.parseFcs h).setSlot h { (s.parseFcs h).slots[h] with metaByte := rxMeta }) :=
          hparse.setSlot (hparse.ne_free_of_rx hrx) rfl rfl rfl rfl rfl
        exact hmeta.detach hd hrx hnone
      · exact hparse.releaseRx hrx hd hnone
    · exact hp.releaseRx hrx hd hnone

theorem closeFrame (hp : PoolSound loose s) :
    PoolSound ((s.closeFrame i).1.toList ++ loose) (s.closeFrame i).2 := by
  refine hp.closeRx ⟨?_, by simp, fun _ => rfl⟩ rfl
  show (s.closeRx i).2.dx[i].ones ≤ 7
  rw [closeRx_dx]
  exact (hp.ranges i).1

/-- One line bit: a frame it completes is loose (R175). -/
theorem destuffBit (hp : PoolSound loose s) (b : Bool) :
    PoolSound ((s.destuffBit i b).1.toList ++ loose) (s.destuffBit i b).2 := by
  obtain ⟨-, holen, hrx⟩ := hp.ranges i
  have counted : ∀ n, n ≤ 7 → PoolSound loose (s.setDx i { s.dx[i] with ones := n }) :=
    fun n hn => hp.setDx ⟨hn, holen, hrx⟩ rfl
  unfold State.destuffBit
  dsimp only
  split
  · have h1 := counted _ (Nat.min_le_right (s.dx[i].ones + 1) 7)
    split
    · exact h1.abort
    · exact h1.dataBit
  · have h0 := counted 0 (by omega)
    split
    · exact h0.closeFrame
    · split
      · exact h0
      · exact h0.dataBit

/-! ## The bank -/

theorem instanceSample (hp : PoolSound loose s) (v : Sample) :
    PoolSound ((s.instanceSample i v).1.toList ++ loose) (s.instanceSample i v).2 := by
  unfold State.instanceSample
  dsimp only
  split
  · exact hp.congr rfl rfl rfl rfl
  · next b _ =>
    refine PoolSound.destuffBit ?_ b
    exact hp.congr rfl rfl rfl rfl

/-- A demodulator's run leaves its candidates loose (R125). -/
theorem runInstance (f : List Sample) : ∀ {s : State} {loose : List Handle}, PoolSound loose s →
    PoolSound ((s.runInstance i f).1 ++ loose) (s.runInstance i f).2 := by
  induction f with
  | nil => exact fun hp => hp
  | cons v rest ih =>
    intro s loose hp
    refine (ih (hp.instanceSample v)).perm ?_
    simp only [State.runInstance, ← List.append_assoc]
    exact List.perm_append_comm.append_right loose

/-- Arbitration settles one candidate: it is the result now or released, and an earlier result it replaces is released
(R129-R131). -/
theorem arbitrate {rest : List Handle} {result : Option Handle} (hp : PoolSound (h :: rest ++ result.toList) s) :
    PoolSound (rest ++ (s.arbitrate h result).1.toList) (s.arbitrate h result).2 := by
  unfold State.arbitrate
  split
  · cases result with
    | none =>
      refine (hp.perm ?_).congr rfl rfl rfl rfl
      simpa using (List.perm_append_singleton h rest).symm
    | some r =>
      have hr : PoolSound (r :: (h :: rest)) s := hp.perm (List.perm_append_singleton r (h :: rest))
      exact (hr.releaseLoose.perm (List.perm_append_singleton h rest).symm).congr rfl rfl rfl rfl
  · exact PoolSound.releaseLoose hp

theorem arbitrateAll (cands : List Handle) : ∀ {s : State} {result : Option Handle},
    PoolSound (cands ++ result.toList) s →
      PoolSound (s.arbitrateAll cands result).1.toList (s.arbitrateAll cands result).2 := by
  induction cands with
  | nil => exact fun hp => hp
  | cons h rest ih => exact fun hp => ih hp.arbitrate

theorem runInstances (f : List Sample) (is : List InstId) : ∀ {s : State} {result : Option Handle},
    PoolSound result.toList s →
      PoolSound (s.runInstances is f result).1.toList (s.runInstances is f result).2 := by
  induction is with
  | nil => exact fun hp => hp
  | cons i rest ih => exact fun hp => ih (arbitrateAll _ (hp.runInstance f))

/-- A block leaves no frame loose: its result is the host's (R132, R133). -/
theorem processBlock (hp : PoolSound [] s) (x : List Sample) : PoolSound [] (s.processBlock x).2 := by
  have hpre : PoolSound [] (s.prefilter x).2 := by
    rw [prefilter_eq]
    exact hp.congr rfl rfl rfl rfl
  have hrun := hpre.runInstances (result := none) (s.prefilter x).1 [0, 1, 2]
  unfold State.processBlock
  dsimp only
  split
  · next h hr =>
    rw [hr] at hrun
    refine PoolSound.handOver ?_
    exact hrun.congr rfl rfl rfl rfl
  · next hr =>
    rw [hr] at hrun
    exact hrun.congr rfl rfl rfl rfl

/-- DEMOD_START's body for one demodulator (R141). -/
theorem restartInstance (hp : PoolSound [] s) (tw : Nat) : PoolSound [] (State.restartInstance tw s i) := by
  have hd : DestufferRanges Destuffer.reset := ⟨by decide, by simp [Destuffer.reset], fun _ => rfl⟩
  unfold State.restartInstance
  dsimp only
  split
  · next h hrx => exact (hp.releaseRx hrx hd rfl).congr rfl rfl rfl rfl
  · next hrx => exact (hp.setDx hd hrx.symm).congr rfl rfl rfl rfl

theorem startBank (hp : PoolSound [] s) (tw : Nat) : PoolSound [] (s.startBank tw) := by
  have h := restartAll_keeps (p := PoolSound []) (fun _ _ ht => restartInstance ht tw) [0, 1, 2] s hp
  unfold State.startBank
  generalize [0, 1, 2].foldl (State.restartInstance tw) s = t at h ⊢
  exact h.congr rfl rfl rfl rfl

/-- HDLC_STUFF's new frame takes its chunks from the unused (R194). -/
theorem stuffed {h2 : Handle} {m : Byte} (out : List Byte) (hp : PoolSound loose s)
    (ha : s.poolAcquire .host = some (h2, t)) (hroom : chunks out.length ≤ s.freeChunks) :
    PoolSound loose { t.setSlot h2 { t.slots[h2] with octets := out, metaByte := m } with
      freeChunks := s.freeChunks - chunks out.length } := by
  have hslot : t.slots[h2] = { Slot.reset with owner := .host } := by rw [(hp.acquired_clear ha).2, slots_set_self]
  have hfc : t.freeChunks = s.freeChunks := by rw [(poolAcquire_eq_some ha).2]
  refine (hp.acquireHost ha).setSlot (by rw [hslot]; exact Owner.noConfusion) rfl rfl ?_ rfl rfl
  show s.freeChunks - chunks out.length + chunks out.length = t.freeChunks + chunks t.slots[h2].octets.length
  rw [hslot, hfc]
  simp only [Slot.reset, List.length_nil, chunks_zero]
  omega

end PoolSound

end Sys2Proof.Proofs
end

section
/-!
SUPPORT. Every command as its common checks and its rule, and what each rule may write (the Writes lines of
spec/40_system.md, spec/41_demod_bank.md, spec/42_hdlc.md and spec/43_fx25.md).
-/

namespace Sys2Proof.Proofs

open Sys2Proof.Machine Sys2Proof.Safety

/-! ## A command is its gate and its rule -/

/-- The common checks a command takes (R240). -/
def gateOf : Instr → Gate
  | .nop | .sysInit => .always
  | .statRead _ => .evenFatal
  | _ => .afterInit

/-- A command's own rule, past the common checks. -/
def ruleOf : Instr → State → Reply
  | .nop => fun t => .respond .ok 0 0 t
  | .sysInit => sysInitRule gfPoly tagTable
  | .statRead sel => fun t => match t.statistic sel with
    | some v => .respond .ok v 0 t
    | none => .raised .badOperand
  | .demodStart tw => fun t =>
    if twistOperand tw then .respond .ok 0 0 (t.startBank tw) else .raised .badOperand
  | .demodStop => fun t => .respond .ok 0 0 { t with running := false }
  | .demodProcess => processRule
  | .demodLocked => fun t => .respond .ok (Word.ofBool t.locked) 0 t
  | .hdlcRxBit inst bit => fun t => match instOperand inst with
    | some i => rxBitRule i bit t
    | none => .raised .badOperand
  | .frameAcquire => fun t => match t.poolAcquire .host with
    | none => .raised .poolExhausted
    | some (h, u) => .respond .ok (Word.ofNat h.val) 0 u
  | .frameRelease h => onFrame h fun f t => .respond .ok 0 0 (t.poolRelease f)
  | .frameClear h => onFrame h fun f t => .respond .ok 0 0 (t.clear f)
  | .frameAppend h b => onFrame h fun f t => match t.frameAppend f b with
    | none => .raised .poolExhausted
    | some u => .respond .ok (Word.ofNat (u.octets f).length) 0 u
  | .frameRead h idx => onFrame h fun f t => match t.readOctet f idx with
    | none => .raised .badOperand
    | some o => .respond .ok (Word.ofBits o) 0 t
  | .frameSize h => onFrame h fun f t => .respond .ok (Word.ofNat (t.octets f).length) 0 t
  | .frameSetMeta h src typ => onFrame h fun f t =>
    .respond .ok 0 0 (t.setSlot f { t.slots[f] with metaByte := packMeta src typ })
  | .frameGetMeta h => onFrame h fun f t => .respond .ok (Word.ofBits t.slots[f].metaByte) 0 t
  | .frameParseFcs h => onFrame h fun f t =>
    if (t.octets f).length < 2 then .raised .badLength
    else
      let u := t.parseFcs f
      .respond .ok (Word.ofBits u.slots[f].crc) (Word.ofBits u.slots[f].fcs) u
  | .frameAddFcs h => onFrame h fun f t => match t.addFcs f with
    | none => .raised .poolExhausted
    | some u => .respond .ok (Word.ofBits u.slots[f].fcs) (Word.ofNat (u.octets f).length) u
  | .frameOk h => onFrame h fun f t => .respond .ok (Word.ofBool (t.frameOk f)) 0 t
  | .frameComplete h => onFrame h fun f t => .respond .ok (Word.ofBool t.slots[f].complete) 0 t
  | .frameGetFcs h => onFrame h fun f t => .respond .ok (Word.ofBits t.slots[f].fcs) 0 t
  | .frameGetCrc h => onFrame h fun f t => .respond .ok (Word.ofBits t.slots[f].crc) 0 t
  | .hdlcStuff h => onFrame h stuffRule
  | .fx25PickMode len => fun t => match pickMode len with
    | none => .raised .none
    | some m => match modeOf m with
      | none => .raised .none
      | some mode => .respond .ok (modeWord m mode) 0 t
  | .fx25Tag mode => fun t => match modeOperand mode with
    | none => .raised .badOperand
    | some _ =>
      .respond .ok ((tagAt tagTable mode).extractLsb 31 0) ((tagAt tagTable mode).extractLsb 63 32) t
  | .fx25TagSelftest => tagSelftestRule tagTable
  | .rsEncode mode h => onFrame h (encodeRule mode)
  | .gfAlpha x => fun t => .respond .ok (Word.ofBits t.alphaTo[x.toNat]) 0 t
  | .gfLog x => fun t => .respond .ok (Word.ofBits t.indexOf[x.toNat]) 0 t
  | .rsGenpoly sel idx => fun t => match codeOperand sel with
    | none => .raised .badOperand
    | some c => genpolyRule c idx t

theorem exec_eq_command (i : Instr) (s : State) : exec i s = command (gateOf i) (ruleOf i) s := by
  cases i <;> rfl

/-- A command answers by a raise of its common checks, or by its rule (R240). -/
theorem exec_cases {i : Instr} {s t : State} (h : exec i s = .next t) :
    (∃ c, t = s.raised c) ∨ ((gateOf i).check s = none ∧ t = (ruleOf i s).finish s) := by
  rw [exec_eq_command] at h
  rcases command_next h with ⟨c, -, ht⟩ | h
  · exact .inl ⟨c, ht⟩
  · exact .inr h

/-- An ordinary command runs its rule only when ready (R240). -/
theorem check_afterInit_eq_none {s : State} : Gate.afterInit.check s = none ↔ Ready s := by
  unfold Gate.check Ready
  cases s.fatal <;> cases s.initDone <;> simp

/-! ## The state a rule leaves -/

/-- The state a rule's writes lead to satisfies `p`; a raise writes nothing (R241, R243). -/
def Leaves (p : State → Prop) : Reply → Prop
  | .respond _ _ _ t => p t
  | .raised _ => True

@[simp] theorem leaves_respond {p : State → Prop} {c : Status} {v0 v1 : Word} {t : State} :
    Leaves p (.respond c v0 v1 t) ↔ p t := Iff.rfl
@[simp] theorem leaves_raised {p : State → Prop} {c : Status} : Leaves p (.raised c) ↔ True := Iff.rfl

/-- A property that does not read the responses passes to the state after the reply. -/
theorem Leaves.finish {p : State → Prop} {s : State} {r : Reply} (hr : Leaves p r) (hs : p s)
    (hp : ∀ t c v0 v1, p t → p (t.respond c v0 v1)) : p (r.finish s) := by
  cases r with
  | respond c v0 v1 t => exact hp t c v0 v1 hr
  | raised c => exact hp s c 0 0 hs

theorem Leaves.mono {p q : State → Prop} {r : Reply} (hr : Leaves p r) (h : ∀ t, p t → q t) : Leaves q r := by
  cases r with
  | respond c v0 v1 t => exact h t hr
  | raised c => trivial

theorem Leaves.and {p q : State → Prop} {r : Reply} (hp : Leaves p r) (hq : Leaves q r) :
    Leaves (fun t => p t ∧ q t) r := by
  cases r with
  | respond c v0 v1 t => exact ⟨hp, hq⟩
  | raised c => trivial

theorem leaves_onFrame {p : State → Prop} {h : Nat} {rule : Handle → State → Reply} {s : State}
    (hr : ∀ f, s.slots[f].owner = .host → Leaves p (rule f s)) : Leaves p (onFrame h rule s) := by
  unfold onFrame
  split
  · next f hf => exact hr f (hostHandle_eq_some.mp hf).2
  · trivial

/-- The spec's field polynomial passes the check of R200 and R201. -/
theorem buildGf_ok : (buildGf gfPoly).ok = true := by decide +kernel

/-- The spec's tag table passes the self-test of R217. -/
theorem tagSelfTest_tagTable : tagSelfTest tagTable = true := by decide +kernel

/-- What SYS_INIT writes the first time (R111, R268). -/
def withBuiltTables (s : State) : State :=
  { s with
    alphaTo := builtTables.alphaTo
    indexOf := builtTables.indexOf
    genpoly16 := buildGenLog builtTables 16
    genpoly32 := buildGenLog builtTables 32
    genpoly64 := buildGenLog builtTables 64
    initDone := true }

/-- With the spec's constants SYS_INIT never enters the fatal state (R111, R201, R217). -/
theorem sysInitRule_eq (s : State) :
    sysInitRule gfPoly tagTable s = .respond .ok 0 0 (if s.initDone then s else withBuiltTables s) := by
  unfold sysInitRule
  dsimp only
  rw [buildGf_ok, tagSelfTest_tagTable]
  split <;> rfl

theorem tagSelftestRule_eq (s : State) : tagSelftestRule tagTable s = .respond .ok 55 0 s := by
  unfold tagSelftestRule
  rw [tagSelfTest_tagTable]
  rfl

/-! ## What a block and a start may write -/

section
variable {p : State → Prop}

theorem runInstance_keeps (hsample : ∀ t i v, p t → p (t.instanceSample i v).2) (i : InstId) (f : List Sample) :
    ∀ s, p s → p (s.runInstance i f).2 := by
  induction f with
  | nil => exact fun s hs => hs
  | cons v rest ih => exact fun s hs => ih _ (hsample s i v hs)

theorem arbitrateAll_keeps (harbitrate : ∀ t h r, p t → p (State.arbitrate t h r).2) (cands : List Handle) :
    ∀ s result, p s → p (s.arbitrateAll cands result).2 := by
  induction cands with
  | nil => exact fun s _ hs => hs
  | cons h rest ih => exact fun s result hs => ih _ _ (harbitrate s h result hs)

/-- What every filtered sample and every arbitration keeps, a block keeps between its pre-filter and its end (R132). -/
theorem runInstances_keeps (hsample : ∀ t i v, p t → p (t.instanceSample i v).2)
    (harbitrate : ∀ t h r, p t → p (State.arbitrate t h r).2) (is : List InstId) (f : List Sample) :
    ∀ s result, p s → p (s.runInstances is f result).2 := by
  induction is with
  | nil => exact fun s _ hs => hs
  | cons i rest ih =>
    exact fun s result hs =>
      ih _ _ (arbitrateAll_keeps harbitrate _ _ result (runInstance_keeps hsample i f s hs))

end

/-- `t` differs from `s` only where a pool command writes (R34-R36). -/
abbrev OnlyPool (s t : State) : Prop := t = { s with slots := t.slots, free := t.free, freeChunks := t.freeChunks }

/-- `t` differs from `s` only where a block writes, the queue aside (R143, Writes). -/
abbrev OnlyBlock (s t : State) : Prop :=
  t = { s with
    pfHist := t.pfHist, deHist := t.deHist, core := t.core, dx := t.dx, slots := t.slots, free := t.free,
    freeChunks := t.freeChunks, blockCounter := t.blockCounter, lastBlockCounter := t.lastBlockCounter,
    lastFcs := t.lastFcs, rxDropCount := t.rxDropCount }

theorem OnlyBlock.trans {s t u : State} (h1 : OnlyBlock s t) (h2 : OnlyBlock t u) : OnlyBlock s u := by
  unfold OnlyBlock at *
  rw [h1] at h2
  exact h2

theorem onlyBlock_of_reception {s t : State} (h : OnlyReception s t) : OnlyBlock s t := by
  unfold OnlyBlock
  rw [h]

theorem instanceSample_onlyBlock (s : State) (i : InstId) (v : Sample) : OnlyBlock s (s.instanceSample i v).2 := by
  unfold State.instanceSample
  dsimp only
  split
  · rfl
  · exact OnlyBlock.trans rfl (onlyBlock_of_reception (destuffBit_onlyReception _ _ _))

theorem arbitrate_onlyBlock (s : State) (h : Handle) (result : Option Handle) :
    OnlyBlock s (s.arbitrate h result).2 := by
  unfold State.arbitrate
  split
  · cases result with
    | none => rfl
    | some r => exact (onlyBlock_of_reception (poolRelease_onlyReception s r)).trans rfl
  · exact onlyBlock_of_reception (poolRelease_onlyReception s h)

theorem processBlock_onlyBlock (s : State) (x : List Sample) : OnlyBlock s (s.processBlock x).2 := by
  have hpre : OnlyBlock s (s.prefilter x).2 := by rw [prefilter_eq]
  have hrun := runInstances_keeps (p := OnlyBlock s) (fun t i v h => h.trans (instanceSample_onlyBlock t i v))
    (fun t h r ht => ht.trans (arbitrate_onlyBlock t h r)) [0, 1, 2] (s.prefilter x).1 _ none hpre
  unfold State.processBlock
  dsimp only
  split <;> exact hrun.trans rfl

/-- `t` differs from `s` only where restarting demodulators writes (R141, Writes). -/
abbrev OnlyInstances (s t : State) : Prop :=
  t = { s with
    dx := t.dx, slots := t.slots, free := t.free, freeChunks := t.freeChunks, deCoef := t.deCoef, deHist := t.deHist,
    core := t.core }

theorem OnlyInstances.trans {s t u : State} (h1 : OnlyInstances s t) (h2 : OnlyInstances t u) : OnlyInstances s u := by
  unfold OnlyInstances at *
  rw [h1] at h2
  exact h2

theorem restartInstance_onlyInstances (tw : Nat) (s : State) (i : InstId) :
    OnlyInstances s (State.restartInstance tw s i) := by
  unfold State.restartInstance
  dsimp only
  split
  · rw [poolRelease_eq]; rfl
  · rfl

/-- What DEMOD_START writes (R141). -/
abbrev OnlyStart (tw : Nat) (s t : State) : Prop :=
  t = { s with
    dx := t.dx, slots := t.slots, free := t.free, freeChunks := t.freeChunks, deCoef := t.deCoef, deHist := t.deHist,
    core := t.core, pfHist := List.replicate (Config.pfTaps - 1) 0, sampleQueue := [], blockCounter := 0,
    lastBlockCounter := 0, lastFcs := 0, twist := BitVec.ofNat 8 tw, configured := true, running := true }

theorem startBank_onlyStart (s : State) (tw : Nat) : OnlyStart tw s (s.startBank tw) := by
  have h : OnlyInstances s ([0, 1, 2].foldl (State.restartInstance tw) s) :=
    restartAll_keeps (p := OnlyInstances s) (fun t i ht => ht.trans (restartInstance_onlyInstances tw t i)) _ s rfl
  unfold OnlyStart State.startBank
  dsimp only
  rw [h]

/-! ## What each rule may write -/

/-- What a command's rule may write. -/
inductive Effect where
  /-- Nothing but the responses. -/
  | responses
  /-- The tables and the SYS_INIT flag, once. -/
  | tables
  /-- What DEMOD_START writes. -/
  | start (tw : Nat)
  /-- The acquisition flag. -/
  | stop
  /-- The queue and what a block writes. -/
  | block
  /-- What reception writes. -/
  | reception
  /-- The frame store and the pools. -/
  | pool

/-- The Writes line of a command. -/
def effectOf : Instr → Effect
  | .sysInit => .tables
  | .demodStart tw => .start tw
  | .demodStop => .stop
  | .demodProcess => .block
  | .hdlcRxBit _ _ => .reception
  | .frameAcquire | .frameRelease _ | .frameClear _ | .frameAppend _ _ | .frameSetMeta _ _ _ | .frameParseFcs _
  | .frameAddFcs _ | .hdlcStuff _ | .rsEncode _ _ => .pool
  | _ => .responses

theorem effectOf_eq_tables {i : Instr} : effectOf i = .tables ↔ i = .sysInit := by cases i <;> simp [effectOf]
theorem effectOf_eq_start {i : Instr} {tw : Nat} : effectOf i = .start tw ↔ i = .demodStart tw := by
  cases i <;> simp [effectOf]
theorem effectOf_eq_stop {i : Instr} : effectOf i = .stop ↔ i = .demodStop := by cases i <;> simp [effectOf]
theorem effectOf_eq_block {i : Instr} : effectOf i = .block ↔ i = .demodProcess := by cases i <;> simp [effectOf]
theorem effectOf_eq_reception {i : Instr} : effectOf i = .reception ↔ ∃ n b, i = .hdlcRxBit n b := by
  cases i <;> simp [effectOf]

/-- The states an effect may lead to, the responses aside. -/
def Effect.Allows (s t : State) : Effect → Prop
  | .responses => t = s
  | .tables => t = if s.initDone then s else withBuiltTables s
  | .start tw => tw < Config.twistCount ∧ OnlyStart tw s t
  | .stop => t = { s with running := false }
  | .block => ∃ x, s.sampleQueue = x :: t.sampleQueue ∧ OnlyBlock { s with sampleQueue := t.sampleQueue } t
  | .reception => OnlyReception s t
  | .pool => OnlyPool s t

theorem poolAcquire_onlyPool {s t : State} {o : Owner} {h : Handle} (ha : s.poolAcquire o = some (h, t)) :
    OnlyPool s t := by
  rw [(poolAcquire_eq_some ha).2]

theorem poolRelease_onlyPool (s : State) (h : Handle) : OnlyPool s (s.poolRelease h) := by
  rw [poolRelease_eq]

theorem setSlot_onlyPool (s : State) (h : Handle) (v : Slot) : OnlyPool s (s.setSlot h v) := rfl
theorem clear_onlyPool (s : State) (h : Handle) : OnlyPool s (s.clear h) := rfl

theorem frameAppend_onlyPool {s t : State} {h : Handle} {b : Byte} (ha : s.frameAppend h b = some t) :
    OnlyPool s t := by
  rw [(frameAppend_eq_some ha).2]

theorem addFcs_onlyPool {s t : State} {h : Handle} (ha : s.addFcs h = some t) : OnlyPool s t := by
  rw [(addFcs_eq_some ha).2]

theorem frameAppendN_onlyPool {s t : State} {h : Handle} {bs : List Byte} (ha : s.frameAppendN h bs = some t) :
    OnlyPool s t := by
  rw [(frameAppendN_eq_some ha).2]

theorem stuffRule_onlyPool (f : Handle) (s : State) : Leaves (OnlyPool s) (stuffRule f s) := by
  unfold stuffRule
  dsimp only
  split
  · trivial
  · split
    · trivial
    · next ha =>
      rw [leaves_respond, poolAcquire_onlyPool ha]
      rfl

theorem encodeRule_onlyPool (mode : Nat) (f : Handle) (s : State) : Leaves (OnlyPool s) (encodeRule mode f s) := by
  unfold encodeRule
  split
  · trivial
  · split
    · trivial
    · split
      · trivial
      · next ha => exact frameAppendN_onlyPool ha

theorem processRule_onlyBlock (s : State) :
    Leaves (fun t => ∃ x, s.sampleQueue = x :: t.sampleQueue ∧ OnlyBlock { s with sampleQueue := t.sampleQueue } t)
      (processRule s) := by
  have run : ∀ {x t}, s.queuePop = some (x, t) →
      ∃ x', s.sampleQueue = x' :: (t.processBlock x).2.sampleQueue ∧
        OnlyBlock { s with sampleQueue := (t.processBlock x).2.sampleQueue } (t.processBlock x).2 := by
    intro x t hq
    have hb := processBlock_onlyBlock t x
    obtain ⟨hcons, ht⟩ := queuePop_eq_some hq
    have hsq : (t.processBlock x).2.sampleQueue = t.sampleQueue := by rw [hb]
    rw [hsq, ← ht]
    exact ⟨x, hcons, hb⟩
  unfold processRule
  split
  · trivial
  · split
    · trivial
    · next hq =>
      have h := run hq
      split <;> next hr => rw [hr] at h; exact h

theorem rxBitRule_onlyReception (i : InstId) (b : Bool) (s : State) : Leaves (OnlyReception s) (rxBitRule i b s) := by
  have h := destuffBit_onlyReception s i b
  unfold rxBitRule
  split
  · next hr => rw [hr] at h; exact h.trans (setSlot_onlyReception _ _ _)
  · next hr => rw [hr] at h; exact h

/-- Every rule writes what its command's Writes line allows. -/
theorem ruleOf_allowed (i : Instr) (s : State) : Leaves (fun t => (effectOf i).Allows s t) (ruleOf i s) := by
  cases i <;> simp only [ruleOf, effectOf, Effect.Allows]
  case nop => rfl
  case sysInit => rw [sysInitRule_eq]; rfl
  case statRead sel => split <;> trivial
  case demodStart tw =>
    split
    · next htw => exact ⟨of_decide_eq_true htw, startBank_onlyStart s tw⟩
    · trivial
  case demodStop => rfl
  case demodProcess => exact processRule_onlyBlock s
  case demodLocked => rfl
  case hdlcRxBit inst bit =>
    split
    · exact rxBitRule_onlyReception _ _ _
    · trivial
  case frameAcquire =>
    split
    · trivial
    · next ha => exact poolAcquire_onlyPool ha
  case frameRelease h => exact leaves_onFrame fun f _ => poolRelease_onlyPool s f
  case frameClear h => exact leaves_onFrame fun f _ => clear_onlyPool s f
  case frameAppend h b =>
    refine leaves_onFrame fun f _ => ?_
    split
    · trivial
    · next ha => exact frameAppend_onlyPool ha
  case frameRead h idx =>
    refine leaves_onFrame (p := (· = s)) fun f _ => ?_
    split <;> trivial
  case frameSize h => exact leaves_onFrame (p := (· = s)) fun f _ => rfl
  case frameSetMeta h src typ => exact leaves_onFrame fun f _ => setSlot_onlyPool s f _
  case frameGetMeta h => exact leaves_onFrame (p := (· = s)) fun f _ => rfl
  case frameParseFcs h =>
    refine leaves_onFrame fun f _ => ?_
    split
    · trivial
    · exact setSlot_onlyPool s f _
  case frameAddFcs h =>
    refine leaves_onFrame fun f _ => ?_
    split
    · trivial
    · next ha => exact addFcs_onlyPool ha
  case frameOk h => exact leaves_onFrame (p := (· = s)) fun f _ => rfl
  case frameComplete h => exact leaves_onFrame (p := (· = s)) fun f _ => rfl
  case frameGetFcs h => exact leaves_onFrame (p := (· = s)) fun f _ => rfl
  case frameGetCrc h => exact leaves_onFrame (p := (· = s)) fun f _ => rfl
  case hdlcStuff h => exact leaves_onFrame fun f _ => stuffRule_onlyPool f s
  case fx25PickMode len =>
    split
    · trivial
    · split <;> trivial
  case fx25Tag mode => split <;> trivial
  case fx25TagSelftest => rw [tagSelftestRule_eq]; rfl
  case rsEncode mode h => exact leaves_onFrame fun f _ => encodeRule_onlyPool mode f s
  case gfAlpha x => rfl
  case gfLog x => rfl
  case rsGenpoly sel idx =>
    split
    · trivial
    · unfold genpolyRule
      split <;> trivial

/-- A command answers with responses over a state its effect allows, or over the state as it was. -/
theorem exec_effect {i : Instr} {s t : State} (h : exec i s = .next t) :
    ∃ u c v0 v1, t = u.respond c v0 v1 ∧ (u = s ∨ (effectOf i).Allows s u) := by
  rcases exec_cases h with ⟨c, rfl⟩ | ⟨-, rfl⟩
  · exact ⟨s, c, 0, 0, rfl, .inl rfl⟩
  · have ha := ruleOf_allowed i s
    cases hr : ruleOf i s with
    | raised c => exact ⟨s, c, 0, 0, rfl, .inl rfl⟩
    | respond c v0 v1 u =>
      rw [hr] at ha
      exact ⟨u, c, v0, v1, rfl, .inr ha⟩

end Sys2Proof.Proofs
end

section
/-!
SUPPORT. Every step keeps the invariant `Inv`: its pool part from the pool operations, the rest from what each command
writes.
-/

namespace Sys2Proof.Proofs

open Sys2Proof.Machine Sys2Proof.Safety

/-! ## The pools, command by command -/

theorem processRule_poolSound {s : State} (hp : PoolSound [] s) : Leaves (PoolSound []) (processRule s) := by
  unfold processRule
  split
  · trivial
  · split
    · trivial
    · next x t hq =>
      have ht : PoolSound [] t := by
        rw [(queuePop_eq_some hq).2]
        exact hp.congr rfl rfl rfl rfl
      have h := ht.processBlock x
      split <;> next hr => rw [hr] at h; exact h

theorem rxBitRule_poolSound {s : State} (hp : PoolSound [] s) (i : InstId) (b : Bool) :
    Leaves (PoolSound []) (rxBitRule i b s) := by
  have h := hp.destuffBit (i := i) b
  unfold rxBitRule
  split
  · next hr => rw [hr] at h; exact PoolSound.handOver h
  · next hr => rw [hr] at h; exact h

theorem stuffRule_poolSound {s : State} (hp : PoolSound [] s) (f : Handle) : Leaves (PoolSound []) (stuffRule f s) := by
  unfold stuffRule
  dsimp only
  split
  · trivial
  · next hroom =>
    split
    · trivial
    · next ha => exact hp.stuffed _ ha (Nat.le_of_not_lt hroom)

theorem encodeRule_poolSound {s : State} {f : Handle} (hp : PoolSound [] s) (hne : s.slots[f].owner ≠ .free)
    (mode : Nat) : Leaves (PoolSound []) (encodeRule mode f s) := by
  unfold encodeRule
  split
  · trivial
  · split
    · trivial
    · split
      · trivial
      · next ha => exact hp.frameAppendN hne ha

/-- Every rule keeps the pools and the destuffers sound (R33, R37). -/
theorem ruleOf_poolSound (i : Instr) {s : State} (hp : PoolSound [] s) : Leaves (PoolSound []) (ruleOf i s) := by
  have held : ∀ {f : Handle}, s.slots[f].owner = .host → s.slots[f].owner ≠ .free := fun h => by
    rw [h]; exact Owner.noConfusion
  have readOnly : effectOf i = .responses → Leaves (PoolSound []) (ruleOf i s) := by
    intro he
    refine (ruleOf_allowed i s).mono fun t ht => ?_
    rw [he] at ht
    exact ht ▸ hp
  cases i
  case sysInit =>
    simp only [ruleOf, sysInitRule_eq]
    rw [leaves_respond]
    split
    · exact hp
    · exact hp.congr rfl rfl rfl rfl
  case demodStart tw =>
    simp only [ruleOf]
    split
    · exact hp.startBank tw
    · trivial
  case demodStop => exact hp.congr rfl rfl rfl rfl
  case demodProcess => exact processRule_poolSound hp
  case hdlcRxBit inst bit =>
    simp only [ruleOf]
    split
    · exact rxBitRule_poolSound hp _ _
    · trivial
  case frameAcquire =>
    simp only [ruleOf]
    split
    · trivial
    · next ha => exact hp.acquireHost ha
  case frameRelease h => simp only [ruleOf]; exact leaves_onFrame fun f hf => hp.releaseHost hf
  case frameClear h => simp only [ruleOf]; exact leaves_onFrame fun f hf => hp.clear (held hf)
  case frameAppend h b =>
    simp only [ruleOf]
    refine leaves_onFrame fun f hf => ?_
    split
    · trivial
    · next ha => exact hp.frameAppend (held hf) ha
  case frameSetMeta h src typ =>
    simp only [ruleOf]
    exact leaves_onFrame fun f hf => hp.setSlot (held hf) rfl rfl rfl rfl rfl
  case frameParseFcs h =>
    simp only [ruleOf]
    refine leaves_onFrame fun f hf => ?_
    split
    · trivial
    · exact hp.parseFcs (held hf)
  case frameAddFcs h =>
    simp only [ruleOf]
    refine leaves_onFrame fun f hf => ?_
    split
    · trivial
    · next ha => exact hp.addFcs (held hf) ha
  case hdlcStuff h => simp only [ruleOf]; exact leaves_onFrame fun f _ => stuffRule_poolSound hp f
  case rsEncode mode h =>
    simp only [ruleOf]; exact leaves_onFrame fun f hf => encodeRule_poolSound hp (held hf) mode
  all_goals exact readOnly rfl

/-! ## The filters, command by command -/

/-- A window one sample longer than a history, cut to the history's length, has that length (R121, R122). -/
theorem length_window {hist : List Sample} {taps : Nat} (v : Sample) (h : hist.length = taps - 1) :
    ((v :: hist).take (taps - 1)).length = taps - 1 := by
  rw [List.length_take, List.length_cons, h]
  omega

theorem filterLengths_congr {s t : State} (hs : FilterLengths s) (hpf : t.pfHist = s.pfHist)
    (hde : t.deHist = s.deHist) (hco : t.deCoef = s.deCoef) : FilterLengths t := by
  unfold FilterLengths
  rw [hpf, hde, hco]
  exact hs

theorem prefilter_filterLengths (x : List Sample) (s : State) (hs : FilterLengths s) :
    FilterLengths (s.prefilter x).2 := by
  induction x generalizing s with
  | nil => exact hs
  | cons v rest ih => exact ih _ ⟨length_window v hs.1, hs.2⟩

theorem instanceSample_filterLengths (s : State) (i : InstId) (v : Sample) (hs : FilterLengths s) :
    FilterLengths (s.instanceSample i v).2 := by
  have hde : FilterLengths (s.deemph i v).2 := by
    refine ⟨hs.1, fun j => ⟨?_, (hs.2 j).2⟩⟩
    show ((s.deHist.set i ((v :: s.deHist[i]).take (Config.deTaps - 1)))[j]).length = Config.deTaps - 1
    rw [getElem_vectorSet]
    split
    · exact length_window v (hs.2 i).1
    · exact (hs.2 j).1
  unfold State.instanceSample
  dsimp only
  split
  · exact filterLengths_congr hde rfl rfl rfl
  · next b _ =>
    rw [destuffBit_onlyReception _ i b]
    exact filterLengths_congr hde rfl rfl rfl

theorem poolRelease_filterLengths {s : State} (h : Handle) (hs : FilterLengths s) :
    FilterLengths (s.poolRelease h) :=
  filterLengths_congr hs (State.poolRelease_pfHist s h) (State.poolRelease_deHist s h) (State.poolRelease_deCoef s h)

theorem arbitrate_filterLengths (s : State) (h : Handle) (result : Option Handle) (hs : FilterLengths s) :
    FilterLengths (s.arbitrate h result).2 := by
  unfold State.arbitrate
  split
  · cases result with
    | none => exact filterLengths_congr hs rfl rfl rfl
    | some r => exact filterLengths_congr (poolRelease_filterLengths r hs) rfl rfl rfl
  · exact poolRelease_filterLengths h hs

/-- A block keeps the lengths of the histories (R121, R122, R132). -/
theorem processBlock_filterLengths (s : State) (x : List Sample) (hs : FilterLengths s) :
    FilterLengths (s.processBlock x).2 := by
  have hrun := runInstances_keeps instanceSample_filterLengths arbitrate_filterLengths [0, 1, 2] (s.prefilter x).1 _
    none (prefilter_filterLengths x s hs)
  unfold State.processBlock
  dsimp only
  split <;> exact filterLengths_congr hrun rfl rfl rfl

theorem length_deemphTable (tw : Nat) (i : InstId) : (Config.deemphTable tw i).length = Config.deTaps := by
  simp [Config.deemphTable]

theorem restartInstance_filterLengths (tw : Nat) (s : State) (i : InstId) (hs : FilterLengths s) :
    FilterLengths (State.restartInstance tw s i) := by
  have restarted : ∀ t : State, FilterLengths t → FilterLengths { t.setDx i Destuffer.reset with
      deCoef := t.deCoef.set i (Config.deemphTable tw i)
      deHist := t.deHist.set i (List.replicate (Config.deTaps - 1) 0)
      core := t.core.set i (Config.coreInit i) } := by
    intro t ht
    refine ⟨ht.1, fun j => ?_⟩
    dsimp only
    rw [getElem_vectorSet, getElem_vectorSet]
    split
    · exact ⟨List.length_replicate, length_deemphTable tw i⟩
    · exact ht.2 j
  unfold State.restartInstance
  dsimp only
  split
  · exact restarted _ (poolRelease_filterLengths _ hs)
  · exact restarted _ hs

theorem startBank_filterLengths (s : State) (tw : Nat) (hs : FilterLengths s) : FilterLengths (s.startBank tw) := by
  have h := restartAll_keeps (restartInstance_filterLengths tw) [0, 1, 2] s hs
  exact ⟨List.length_replicate, h.2⟩

/-- What is neither a start nor a block does not touch the filters. -/
theorem allowed_filterLengths {e : Effect} {s t : State} (hs : FilterLengths s) (hstart : ∀ tw, e ≠ .start tw)
    (hblock : e ≠ .block) (ha : e.Allows s t) : FilterLengths t := by
  cases e with
  | responses => exact (show t = s from ha) ▸ hs
  | tables =>
    rw [show t = _ from ha]
    split
    · exact hs
    · exact filterLengths_congr hs rfl rfl rfl
  | start tw => exact absurd rfl (hstart tw)
  | stop => rw [show t = _ from ha]; exact filterLengths_congr hs rfl rfl rfl
  | block => exact absurd rfl hblock
  | reception => rw [show t = _ from ha]; exact filterLengths_congr hs rfl rfl rfl
  | pool => rw [show t = _ from ha]; exact filterLengths_congr hs rfl rfl rfl

/-- Every rule keeps the lengths of the filters' lists (R30, R31). -/
theorem ruleOf_filterLengths (i : Instr) {s : State} (hs : FilterLengths s) : Leaves FilterLengths (ruleOf i s) := by
  by_cases hstart : ∃ tw, i = .demodStart tw
  · obtain ⟨tw, rfl⟩ := hstart
    simp only [ruleOf]
    split
    · exact startBank_filterLengths s tw hs
    · trivial
  by_cases hprocess : i = .demodProcess
  · subst hprocess
    show Leaves FilterLengths (processRule s)
    unfold processRule
    split
    · trivial
    · split
      · trivial
      · next x t hq =>
        have ht : FilterLengths t := by rw [(queuePop_eq_some hq).2]; exact hs
        have h := processBlock_filterLengths t x ht
        split <;> next hr => rw [hr] at h; exact h
  · exact (ruleOf_allowed i s).mono fun t ht => allowed_filterLengths hs
      (fun tw he => hstart ⟨tw, effectOf_eq_start.mp he⟩) (fun he => hprocess (effectOf_eq_block.mp he)) ht

/-! ## Queue, control and tables -/

/-- The part of the invariant beside the pools, the destuffers and the filters. -/
def Steady (s : State) : Prop := QueueBounded s ∧ ControlLegal s ∧ TablesBuilt s

theorem inv_iff {s : State} : Inv s ↔ PoolSound [] s ∧ FilterLengths s ∧ Steady s := by
  rw [poolSound_nil_iff]
  unfold Safety.Inv Steady
  tauto

/-- The queue, the control flags with twist and status, and the tables are all that `Steady` reads. -/
theorem Steady.congr {s t : State} (hs : Steady s) (hq : t.sampleQueue = s.sampleQueue) (hst : t.status = s.status)
    (hr : t.running = s.running) (hc : t.configured = s.configured) (hi : t.initDone = s.initDone)
    (htw : t.twist = s.twist) (hgf : t.gf = s.gf) (hgen : t.genpoly = s.genpoly) : Steady t := by
  unfold Steady QueueBounded ControlLegal TablesBuilt at *
  rw [hq, hst, hr, hc, hi, htw, hgf, hgen]
  exact hs

/-- SYS_INIT's tables are the ones the constants determine (R268). -/
theorem withBuiltTables_tablesBuilt (s : State) : TablesBuilt (withBuiltTables s) := by
  intro _
  have eta : ∀ g : GfTables, ({ alphaTo := g.alphaTo, indexOf := g.indexOf } : GfTables) = g := fun _ => rfl
  refine ⟨eta builtTables, fun c => ?_⟩
  cases c <;> simp only [withBuiltTables, State.genpoly, Code.parity, builtTables]

theorem steady_onlyPool {s t : State} (hs : Steady s) (ha : OnlyPool s t) : Steady t := by
  rw [ha]
  exact hs.congr rfl rfl rfl rfl rfl rfl rfl rfl

/-- Every rule that runs keeps the queue bounded, the control flags legal and the tables built (R22, R25, R26, R38,
R268). -/
theorem ruleOf_steady {i : Instr} {s : State} (hs : Steady s) (hrun : (gateOf i).check s = none) :
    Leaves Steady (ruleOf i s) := by
  refine (ruleOf_allowed i s).mono fun t ha => ?_
  cases he : effectOf i with
  | responses => rw [he] at ha; exact (show t = s from ha) ▸ hs
  | tables =>
    obtain rfl := effectOf_eq_tables.mp he
    rw [show t = _ from ha]
    obtain ⟨hqueue, ⟨hst, hrunning, hconf⟩, hbuilt⟩ := hs
    split
    · exact ⟨hqueue, ⟨hst, hrunning, hconf⟩, hbuilt⟩
    · exact ⟨hqueue, ⟨hst, hrunning, fun h => ⟨rfl, (hconf h).2⟩⟩, withBuiltTables_tablesBuilt s⟩
  | start tw =>
    obtain rfl := effectOf_eq_start.mp he
    obtain ⟨htw, ht⟩ : tw < Config.twistCount ∧ OnlyStart tw s t := ha
    obtain ⟨-, hinit⟩ := check_afterInit_eq_none.mp hrun
    obtain ⟨-, ⟨hst, -, -⟩, hbuilt⟩ := hs
    rw [ht]
    refine ⟨⟨Nat.zero_le _, by simp⟩, ⟨hst, fun _ => rfl, fun _ => ⟨hinit, ?_⟩⟩, hbuilt⟩
    exact lt_of_le_of_lt (Nat.mod_le _ _) htw
  | stop =>
    rw [he] at ha
    rw [show t = _ from ha]
    obtain ⟨hqueue, ⟨hst, -, hconf⟩, hbuilt⟩ := hs
    exact ⟨hqueue, ⟨hst, by simp, hconf⟩, hbuilt⟩
  | block =>
    rw [he] at ha
    obtain ⟨x, hcons, ht⟩ := ha
    obtain ⟨⟨hlen, hall⟩, hcontrol, hbuilt⟩ := hs
    rw [hcons] at hlen hall
    have hpopped : Steady { s with sampleQueue := t.sampleQueue } :=
      ⟨⟨Nat.le_of_succ_le hlen, fun y hy => hall y (List.mem_cons_of_mem x hy)⟩, hcontrol, hbuilt⟩
    rw [ht]
    exact hpopped.congr rfl rfl rfl rfl rfl rfl rfl rfl
  | reception =>
    rw [he] at ha
    rw [show t = _ from ha]
    exact hs.congr rfl rfl rfl rfl rfl rfl rfl rfl
  | pool => rw [he] at ha; exact steady_onlyPool hs ha

/-! ## The invariant -/

/-- A status code fits a byte, so a response keeps the invariant (R22, R241). -/
theorem inv_respond {t : State} (ht : Inv t) (c : Status) (v0 v1 : Word) : Inv (t.respond c v0 v1) := by
  obtain ⟨hp, hf, hqueue, ⟨-, hrunning, hconf⟩, hbuilt⟩ := inv_iff.mp ht
  have hstatus : (t.respond c v0 v1).status.toNat < 256 := by
    rw [State.respond_status]
    cases c <;> decide
  exact inv_iff.mpr ⟨hp.congr rfl rfl rfl rfl, hf, hqueue, ⟨hstatus, hrunning, hconf⟩, hbuilt⟩

/-- The fields that are not the block's do not matter to the invariant. -/
theorem inv_environment {s : State} (hs : Inv s) (rest : List HostAction) (w : Word) :
    Inv { s with inputs := rest, busData := w } := by
  obtain ⟨hp, hf, ht⟩ := inv_iff.mp hs
  exact inv_iff.mpr ⟨hp.congr rfl rfl rfl rfl, hf, ht⟩

/-- Every command keeps the invariant. -/
theorem exec_inv {i : Instr} {s t : State} (hs : Inv s) (h : exec i s = .next t) : Inv t := by
  rcases exec_cases h with ⟨c, rfl⟩ | ⟨hrun, rfl⟩
  · exact inv_respond hs c 0 0
  · obtain ⟨hp, hf, hst⟩ := inv_iff.mp hs
    have hrule : Leaves Inv (ruleOf i s) :=
      ((ruleOf_poolSound i hp).and ((ruleOf_filterLengths i hf).and (ruleOf_steady hst hrun))).mono
        fun u hu => inv_iff.mpr hu
    exact hrule.finish hs fun u c v0 v1 hu => inv_respond hu c v0 v1

theorem execute_inv {w : Word} {s t : State} (hs : Inv s) (h : execute w s = .next t) : Inv t := by
  unfold execute at h
  split at h
  · cases h; exact inv_respond hs _ 0 0
  · exact exec_inv hs h

/-- A delivered block of N samples goes to a queue with room for it, or nowhere (R38, R250). -/
theorem deliver_inv {s : State} {x : List Sample} (hs : Inv s) (hx : x.length = Config.blockLen) :
    Inv (s.deliver x) := by
  rcases deliver_cases s x with ⟨-, h⟩ | ⟨-, -, -, h⟩ | ⟨-, -, hroom, h⟩
  · rw [h]; exact hs
  · obtain ⟨hp, hf, ht⟩ := inv_iff.mp hs
    rw [h]
    exact inv_iff.mpr ⟨hp.congr rfl rfl rfl rfl, hf, ht⟩
  · obtain ⟨hp, hf, ⟨hlen, hall⟩, ht⟩ := inv_iff.mp hs
    rw [h]
    refine inv_iff.mpr ⟨hp.congr rfl rfl rfl rfl, hf, ⟨?_, ?_⟩, ht⟩
    · simp only [List.length_append, List.length_singleton]
      omega
    · intro y hy
      rcases List.mem_append.mp hy with hy | hy
      · exact hall y hy
      · rw [List.mem_singleton.mp hy]; exact hx

/-- The invariant at reset: every slot is free and clear, no destuffer receives, nothing is configured (R44). -/
theorem inv_reset : Inv State.reset := by
  have slot : ∀ h : Handle, State.reset.slots[h] = Slot.reset := fun h => by simp [State.reset]
  have dx : ∀ i : InstId, State.reset.dx[i] = Destuffer.reset := fun i => by simp [State.reset]
  have hpool : PoolSound [] State.reset := by
    refine ⟨⟨List.nodup_finRange 48, fun h => ?_⟩, ?_, fun h _ => slot h, fun i h => ?_, fun i => ?_,
      List.nodup_nil, by simp⟩
    · exact iff_of_true (List.mem_finRange h) (by rw [slot]; rfl)
    · have hheld : chunksHeld State.reset = 0 := by
        rw [chunksHeld_eq_sum]
        exact Finset.sum_eq_zero fun h _ => by rw [slot]; rfl
      unfold ChunksExact
      rw [hheld]
      rfl
    · rw [slot, dx]
      simp [Slot.reset, Destuffer.reset]
    · rw [dx]
      exact ⟨Nat.zero_le 7, by simp [Destuffer.reset], fun _ => rfl⟩
  have hfilters : FilterLengths State.reset :=
    ⟨List.length_replicate, fun i => ⟨by simp [State.reset], by simp [State.reset]⟩⟩
  refine inv_iff.mpr ⟨hpool, hfilters, ⟨Nat.zero_le _, by simp [State.reset]⟩, ⟨by decide, ?_, ?_⟩, ?_⟩
  · intro h; cases h
  · intro h; cases h
  · intro h; cases h

theorem writeRegister_inv {r : Register} {w : Word} {s t : State} (hs : Inv s) (h : writeRegister r w s = .next t) :
    Inv t := by
  cases r with
  | cmd => exact execute_inv hs h
  | status => cases h; exact hs
  | value0 => cases h; exact hs
  | value1 => cases h; exact hs

/-- Every action of the environment keeps the invariant. -/
theorem perform_inv {a : HostAction} {s t : State} (hs : Inv s) (h : perform a s = .next t) : Inv t := by
  cases a with
  | command w => exact writeRegister_inv (r := .cmd) hs h
  | write address bytes data =>
    simp only [perform] at h
    split at h
    · exact writeRegister_inv hs h
    · cases h
    · cases h
  | read address bytes =>
    simp only [perform] at h
    split at h
    · cases h; exact inv_environment hs s.inputs _
    · cases h
    · cases h
  | deliver block =>
    simp only [perform] at h
    split at h
    · next hx => cases h; exact deliver_inv hs hx
    · cases h
  | reset => cases h; exact inv_environment inv_reset s.inputs s.busData

/-- Settles O3: a step stands still or performs one action, and every action keeps the invariant. -/
theorem stepKeepsInvariant : Obligations.StepKeepsInvariant := by
  intro s s' hs h
  rcases step_cases s with ⟨-, hstep⟩ | ⟨a, rest, -, hstep⟩
  · rw [hstep] at h
    cases h
    exact hs
  · rw [hstep] at h
    exact perform_inv (inv_environment hs rest s.busData) h

end Sys2Proof.Proofs
end

section
/-!
SUPPORT. Reset, the cycle of a command, and what the commands write: the statements about the state that need no more
than the rules above.
-/

namespace Sys2Proof.Proofs

open Sys2Proof.Machine Sys2Proof.Safety

/-! ## Reset and the step of a command -/

/-- Reset puts the block at R44's values whatever is still to come (R265). -/
theorem resetBlock_atReset (s : State) : AtReset s.resetBlock := by
  refine ⟨rfl, rfl, rfl, rfl, rfl, rfl, rfl, rfl, rfl, rfl, rfl, rfl, rfl, rfl, ?_, ?_, ?_, ?_, rfl, rfl⟩
  · intro i; simp [State.resetBlock, State.reset]
  · intro i; simp [State.resetBlock, State.reset, Destuffer.reset]
  · intro h; simp [State.resetBlock, State.reset, Slot.reset]
  · show (List.finRange 48).map Fin.val = List.range 48
    exact List.map_coe_finRange_eq_range

/-- Settles O1. -/
theorem resetGivesSpecValues : Obligations.ResetGivesSpecValues := by
  refine ⟨resetBlock_atReset State.reset, fun s rest hs => ?_⟩
  rcases step_cases s with ⟨hnil, -⟩ | ⟨a, rest', hcons, hstep⟩
  · rw [hs] at hnil; cases hnil
  · obtain ⟨rfl, rfl⟩ := List.cons.inj (hcons.symm.trans hs)
    exact ⟨_, hstep, resetBlock_atReset _, rfl⟩

/-- Settles O2. -/
theorem resetSatisfiesInvariant : Obligations.ResetSatisfiesInvariant := inv_reset

/-- A legal word issued runs its command (R240). -/
theorem perform_command {w : Word} {i : Instr} (s : State) (hw : decode w = .ok i) :
    perform (.command w) s = exec i s := by
  show execute w s = exec i s
  unfold execute
  rw [hw]

/-- Settles O8: the two forms of the write to CMD are one action. -/
theorem stepRunsDecodedCommand : Obligations.StepRunsDecodedCommand := by
  intro s w rest i hs hw
  rcases step_cases s with ⟨hnil, -⟩ | ⟨a, rest', hcons, hstep⟩
  · rcases hs with h | h <;> rw [h] at hnil <;> cases hnil
  · rcases hs with h | h
    · obtain ⟨rfl, rfl⟩ := List.cons.inj (hcons.symm.trans h)
      rw [hstep, perform_command _ hw]
    · obtain ⟨rfl, rfl⟩ := List.cons.inj (hcons.symm.trans h)
      rw [hstep, perform_write_cmd, perform_command _ hw]

/-! ## What the commands write -/

/-- Settles O17, from the effect of each command. -/
theorem controlFlagWriters : Obligations.ControlFlagWriters := by
  intro i s t h
  obtain ⟨u, c, v0, v1, rfl, hu⟩ := exec_effect h
  simp only [State.respond_initDone, State.respond_fatal, State.respond_configured, State.respond_running]
  rcases hu with rfl | hu
  · simp
  cases he : effectOf i with
  | responses => rw [he] at hu; obtain rfl : u = s := hu; simp
  | tables =>
    obtain rfl := effectOf_eq_tables.mp he
    obtain rfl : u = if s.initDone then s else withBuiltTables s := hu
    split <;> simp [withBuiltTables]
  | start tw =>
    obtain rfl := effectOf_eq_start.mp he
    obtain ⟨-, hu⟩ : _ ∧ OnlyStart tw s u := hu
    rw [hu]
    simp
  | stop =>
    obtain rfl := effectOf_eq_stop.mp he
    obtain rfl : u = { s with running := false } := hu
    simp
  | block =>
    rw [he] at hu
    obtain ⟨-, -, hu⟩ := hu
    rw [hu]
    simp
  | reception => rw [he] at hu; rw [show u = _ from hu]; simp
  | pool => rw [he] at hu; rw [show u = _ from hu]; simp

/-- The commands that only read leave the frame store and the pools alone: none of their effects reaches them. -/
def Effect.SparesPool : Effect → Prop
  | .responses | .tables | .stop => True
  | _ => False

/-- Which part of the state each effect reaches, said the other way round: what it leaves alone. -/
structure Frame (e : Effect) (s u : State) : Prop where
  /-- The model's own fields and the delivery counter: no effect reaches them. -/
  environment : u.inputs = s.inputs ∧ u.busData = s.busData ∧ u.sampleDropCount = s.sampleDropCount
  bank : (∀ tw, e ≠ .start tw) → e ≠ .stop → e ≠ .block → SameBank s u
  destuffers : (∀ tw, e ≠ .start tw) → e ≠ .block → e ≠ .reception → u.dx = s.dx
  drops : e ≠ .block → e ≠ .reception → u.rxDropCount = s.rxDropCount
  loaded : (∀ tw, e ≠ .start tw) → u.deCoef = s.deCoef ∧ u.twist = s.twist ∧ u.configured = s.configured
  tables : e ≠ .tables ∨ s.initDone = true → SameTables s u
  pool : e.SparesPool → SamePool s u

theorem frame_refl (e : Effect) (s : State) : Frame e s s := by
  constructor <;> simp [SameBank, SameTables, SamePool]

theorem frame_of_allowed {e : Effect} {s u : State} (hu : e.Allows s u) : Frame e s u := by
  cases e with
  | responses => obtain rfl : u = s := hu; exact frame_refl _ _
  | tables =>
    obtain rfl : u = if s.initDone then s else withBuiltTables s := hu
    split
    · exact frame_refl _ _
    · next hinit => constructor <;> simp [SameBank, SamePool, withBuiltTables, hinit]
  | start tw =>
    rw [hu.2]
    constructor <;> simp [SameTables, Effect.SparesPool]
  | stop =>
    obtain rfl : u = { s with running := false } := hu
    constructor <;> simp [SameTables, SamePool]
  | block =>
    obtain ⟨-, -, hu⟩ := hu
    rw [hu]
    constructor <;> simp [SameTables, Effect.SparesPool]
  | reception =>
    rw [show u = _ from hu]
    constructor <;> simp [SameBank, SameTables, Effect.SparesPool]
  | pool =>
    rw [show u = _ from hu]
    constructor <;> simp [SameBank, SameTables, Effect.SparesPool]

/-- A command leaves alone what its effect does not reach; the responses are outside every frame. -/
theorem exec_frame {i : Instr} {s t : State} (h : exec i s = .next t) : Frame (effectOf i) s t := by
  obtain ⟨u, c, v0, v1, rfl, hu⟩ := exec_effect h
  have hf : Frame (effectOf i) s u := by
    rcases hu with rfl | hu
    · exact frame_refl _ _
    · exact frame_of_allowed hu
  exact ⟨hf.environment, hf.bank, hf.destuffers, hf.drops, hf.loaded, hf.tables, hf.pool⟩

/-- Settles O18, each clause from the effects that reach its part of the state. -/
theorem familyFrames : Obligations.FamilyFrames := by
  intro i s t h
  have hf := exec_frame h
  have start : (∀ tw, i ≠ .demodStart tw) → ∀ tw, effectOf i ≠ .start tw := fun hi tw e =>
    hi tw (effectOf_eq_start.mp e)
  have block : i ≠ .demodProcess → effectOf i ≠ .block := fun hi e => hi (effectOf_eq_block.mp e)
  have reception : (∀ n b, i ≠ .hdlcRxBit n b) → effectOf i ≠ .reception := fun hi e => by
    obtain ⟨n, b, rfl⟩ := effectOf_eq_reception.mp e
    exact hi n b rfl
  obtain ⟨hinputs, hbus, hdrop⟩ := hf.environment
  refine ⟨hinputs, hbus, hdrop, fun hstart hstop hblock => ?_, fun hstart hblock hrx => ?_, fun hblock hrx => ?_,
    fun hstart => ?_, fun hinit => ?_, fun hinit => ?_, fun hread => ?_⟩
  · exact hf.bank (start hstart) (fun e => hstop (effectOf_eq_stop.mp e)) (block hblock)
  · exact hf.destuffers (start hstart) (block hblock) (reception hrx)
  · exact hf.drops (block hblock) (reception hrx)
  · obtain ⟨hcoef, htwist, -⟩ := hf.loaded (start hstart)
    exact ⟨hcoef, htwist⟩
  · exact hf.tables (.inl fun e => hinit (effectOf_eq_tables.mp e))
  · exact hf.tables (.inr hinit)
  · refine hf.pool ?_
    rcases hread with rfl | rfl | ⟨n, rfl⟩ | rfl | rfl | ⟨h, n, rfl⟩ |
      ⟨h, rfl | rfl | rfl | rfl | rfl | rfl⟩ | ⟨n, rfl⟩ | ⟨m, rfl⟩ | rfl | ⟨x, rfl | rfl⟩ | ⟨n, k, rfl⟩
    all_goals trivial

/-! ## STAT_READ -/

/-- A word that keeps a pattern under a mask with every opcode bit set has the pattern's opcode (R85, R86). -/
theorem opcode_of_masked {w m v : Word} (hw : w &&& m = v) (hm : m.extractLsb 31 26 = BitVec.allOnes 6) :
    opcode w = (v.extractLsb 31 26).toNat := by
  subst hw
  show (w.extractLsb 31 26).toNat = _
  rw [BitVec.extractLsb_and, hm, BitVec.and_allOnes]

theorem statRead_encodes : Encodes 0xFFFFFFF0 0x08000000 (fun w => .statRead (bits w 3 0)) := by
  intro w hw
  have hop : opcode w = 2 := opcode_of_masked hw (by decide)
  unfold decode
  rw [hop]
  exact if_pos hw

/-- STAT_READ passes no common check, so it answers the statistic in every state (R112, R240, R245). -/
theorem exec_statRead_some {s : State} {sel : Nat} {v : Word} (h : s.statistic sel = some v) :
    exec (.statRead sel) s = .next (responded s 0x00 v 0) := by
  rw [exec_eq_command]
  simp only [gateOf, ruleOf, command, Gate.check, h]
  rfl

theorem exec_statRead_none {s : State} {sel : Nat} (h : s.statistic sel = none) :
    exec (.statRead sel) s = .next (responded s 0x12 0 0) := by
  rw [exec_eq_command]
  simp only [gateOf, ruleOf, command, Gate.check, h]
  rfl

theorem statistic_eq_none {sel : Nat} (s : State) (h : 9 ≤ sel) : s.statistic sel = none := by
  obtain ⟨k, rfl⟩ := Nat.exists_eq_add_of_le' h
  rfl

/-- A bit of the STATE word is a bit of one of its fields (R27). -/
theorem stateWord_getLsbD (s : State) (j : Nat) :
    s.stateWord.getLsbD j =
      if j = 0 then s.initDone else if j = 1 then s.configured else if j = 2 then s.running else
      if j = 3 then s.fatal else if j = 4 then s.locked else if j < 8 then false else s.twist.getLsbD (j - 8) := by
  have word : s.stateWord.getLsbD j = ((0 : BitVec 16) ++ s.twist ++ (0 : BitVec 3) ++ BitVec.ofBool s.locked ++
      BitVec.ofBool s.fatal ++ BitVec.ofBool s.running ++ BitVec.ofBool s.configured ++
      BitVec.ofBool s.initDone).getLsbD j := rfl
  rw [word]
  simp only [BitVec.getLsbD_append]
  rcases j with _ | _ | _ | _ | _ | j
  · simp
  · simp
  · simp
  · simp
  · simp
  · simp
    grind

/-- The flags of the STATE word (R27). -/
theorem stateWord_flags (s : State) :
    s.stateWord.getLsbD 0 = s.initDone ∧ s.stateWord.getLsbD 1 = s.configured ∧
      s.stateWord.getLsbD 2 = s.running ∧ s.stateWord.getLsbD 3 = s.fatal ∧ s.stateWord.getLsbD 4 = s.locked :=
  ⟨stateWord_getLsbD s 0, stateWord_getLsbD s 1, stateWord_getLsbD s 2, stateWord_getLsbD s 3,
    stateWord_getLsbD s 4⟩

/-- The fields of the STATE word above its flags: zero, TWIST, zero (R27). -/
theorem stateWord_fields (s : State) :
    bits s.stateWord 7 5 = 0 ∧ bits s.stateWord 15 8 = s.twist.toNat ∧ bits s.stateWord 31 16 = 0 := by
  have low : s.stateWord.extractLsb 7 5 = 0#3 := by
    apply BitVec.eq_of_getLsbD_eq
    intro j hj
    simp [stateWord_getLsbD]
    grind
  have middle : s.stateWord.extractLsb 15 8 = s.twist := by
    apply BitVec.eq_of_getLsbD_eq
    intro j hj
    simp [stateWord_getLsbD]
    grind
  have high : s.stateWord.extractLsb 31 16 = 0#16 := by
    apply BitVec.eq_of_getLsbD_eq
    intro j hj
    simp [stateWord_getLsbD]
    grind
  exact ⟨congrArg BitVec.toNat low, congrArg BitVec.toNat middle, congrArg BitVec.toNat high⟩

/-- Settles O22. -/
theorem statReadRule : Obligations.StatReadRule := by
  refine ⟨statRead_encodes, fun s => ⟨⟨s.stateWord, exec_statRead_some rfl, ?_⟩, exec_statRead_some rfl,
    exec_statRead_some rfl, exec_statRead_some (congrArg some (BitVec.ofNat_toNat 32 s.lastFcs).symm),
    exec_statRead_some rfl, exec_statRead_some rfl, exec_statRead_some rfl, exec_statRead_some rfl,
    exec_statRead_some rfl, fun sel hsel => exec_statRead_none (statistic_eq_none s hsel)⟩⟩
  obtain ⟨h0, h1, h2, h3, h4⟩ := stateWord_flags s
  exact ⟨h0, h1, h2, h3, h4, stateWord_fields s⟩

/-! ## Chunks and the pool's order -/

/-- The ceiling of a length over CHUNK_SIZE is the least count that reaches it (R36). -/
theorem holdsChunks_chunks (len : Nat) : HoldsChunks len (chunks len) := by
  have hpos := chunkSize_pos
  unfold chunks
  constructor
  · have := Nat.div_add_mod (len + Config.chunkSize - 1) Config.chunkSize
    have := Nat.mod_lt (len + Config.chunkSize - 1) hpos
    rw [Nat.mul_comm]
    omega
  · intro m hm
    refine Nat.le_of_lt_succ ((Nat.div_lt_iff_lt_mul hpos).mpr ?_)
    rw [Nat.succ_mul]
    omega

/-- Settles O35. -/
theorem chunkCountIsCeiling : Obligations.ChunkCountIsCeiling := fun len =>
  ⟨holdsChunks_chunks len, chunks_succ len⟩

theorem exec_frameRelease {s : State} {h : Nat} {f : Handle} (hs : Ready s) (hf : HostFrame s h f) :
    exec (.frameRelease h) s = .next ((s.poolRelease f).respond .ok 0 0) := by
  rw [exec_eq_command, command_of_ready hs]
  simp only [ruleOf]
  rw [onFrame_of_host hf]
  rfl

theorem exec_frameAcquire {s : State} {f : Handle} {rest : List Handle} (hs : Ready s) (hfree : s.free = f :: rest) :
    exec .frameAcquire s =
      .next (({ s with free := rest }.setOwner f .host).respond .ok (Word.ofNat f.val) 0) := by
  rw [exec_eq_command, command_of_ready hs]
  simp only [ruleOf, State.poolAcquire, hfree, Reply.finish]

/-- Settles O46: the release puts the handle on top of the free list, and the acquisition takes it from there. -/
theorem releaseThenAcquireIsLifo : Obligations.ReleaseThenAcquireIsLifo := by
  intro s h f hs hf
  have hfree : ((s.poolRelease f).respond .ok 0 0).free = f :: s.free := State.poolRelease_free s f
  refine ⟨_, _, exec_frameRelease hs hf, exec_frameAcquire ⟨?_, ?_⟩ hfree, rfl, rfl, ?_, fun g hg => ?_⟩
  · exact (State.poolRelease_fatal s f).trans hs.1
  · exact (State.poolRelease_initDone s f).trans hs.2
  · rw [State.respond_slots, State.setOwner_slots, slots_set_self]
    show { (s.poolRelease f).slots[f] with owner := Owner.host } = _
    rw [State.poolRelease_slots, slots_set_self]
  · rw [State.respond_slots, State.setOwner_slots, slots_set_ne _ _ _ _ hg]
    show (s.poolRelease f).slots[g] = _
    rw [State.poolRelease_slots, slots_set_ne _ _ _ _ hg]

end Sys2Proof.Proofs
end

section
/-!
SUPPORT. The unbuilt fields are never read: reception and every rule do the same whatever coefficients and cores an
unstarted bank holds, and DEMOD_START and SYS_INIT overwrite what they find (spec/10_state.md R31, R32, R39, R40).
-/

namespace Sys2Proof.Proofs

open Sys2Proof.Machine Sys2Proof.Safety

/-! ## The coefficients and cores of an unstarted bank -/

/-- The state with other coefficients and core states, as `withFilters` for what DEMOD_START loads (R141). -/
def withLoads (s : State) (coef : Vector (List Sample) 3) (core : Vector Config.CoreState 3) : State :=
  { s with deCoef := coef, core := core }

/-- A reply with the state it leaves changed. -/
def mapState (g : State → State) : Reply → Reply
  | .respond c v0 v1 t => .respond c v0 v1 (g t)
  | .raised c => .raised c

section
variable (s : State) (i : InstId) (coef : Vector (List Sample) 3) (core : Vector Config.CoreState 3)

theorem frameAppend_withLoads (h : Handle) (o : Byte) :
    (withLoads s coef core).frameAppend h o = (s.frameAppend h o).map (withLoads · coef core) := by
  unfold State.frameAppend
  rw [show (withLoads s coef core).slots = s.slots from rfl,
    show (withLoads s coef core).freeChunks = s.freeChunks from rfl]
  dsimp only
  split
  · split <;> rfl
  · rfl

theorem frameAppendN_withLoads (h : Handle) (os : List Byte) :
    (withLoads s coef core).frameAppendN h os = (s.frameAppendN h os).map (withLoads · coef core) := by
  unfold State.frameAppendN
  rw [show (withLoads s coef core).slots = s.slots from rfl,
    show (withLoads s coef core).freeChunks = s.freeChunks from rfl]
  dsimp only
  split <;> rfl

theorem addFcs_withLoads (h : Handle) :
    (withLoads s coef core).addFcs h = (s.addFcs h).map (withLoads · coef core) := by
  unfold State.addFcs
  dsimp only
  rw [frameAppendN_withLoads, show (withLoads s coef core).octets h = s.octets h from rfl]
  cases s.frameAppendN h (fcsOctets (crc16 (s.octets h))) <;> rfl

theorem poolAcquire_withLoads (o : Owner) :
    (withLoads s coef core).poolAcquire o =
      (s.poolAcquire o).map fun p => (p.1, withLoads p.2 coef core) := by
  unfold State.poolAcquire
  rw [show (withLoads s coef core).free = s.free from rfl]
  cases s.free <;> rfl

theorem storeRxOctet_withLoads (h : Handle) (o : Byte) :
    (withLoads s coef core).storeRxOctet i h o = withLoads (s.storeRxOctet i h o) coef core := by
  unfold State.storeRxOctet
  rw [frameAppend_withLoads]
  cases s.frameAppend h o <;> rfl

theorem rxOctet_withLoads (o : Byte) :
    (withLoads s coef core).rxOctet i o = withLoads (s.rxOctet i o) coef core := by
  unfold State.rxOctet
  rw [show (withLoads s coef core).dx[i] = s.dx[i] from rfl, poolAcquire_withLoads]
  cases s.dx[i].rx with
  | some h => exact storeRxOctet_withLoads s i coef core h o
  | none =>
    cases s.poolAcquire (.rx i) with
    | none => rfl
    | some p => exact storeRxOctet_withLoads (p.2.setDx i { p.2.dx[i] with rx := some p.1 }) i coef core p.1 o

theorem dataBit_withLoads (v : Bool) :
    (withLoads s coef core).dataBit i v = withLoads (s.dataBit i v) coef core := by
  unfold State.dataBit
  rw [show (withLoads s coef core).dx[i] = s.dx[i] from rfl]
  cases s.dx[i].olen with
  | none => rfl
  | some n =>
    dsimp only
    split
    · exact rxOctet_withLoads (s.setDx i _) i coef core _
    · rfl

theorem closeFrame_withLoads :
    (withLoads s coef core).closeFrame i = ((s.closeFrame i).1, withLoads (s.closeFrame i).2 coef core) := by
  have hclose : (withLoads s coef core).closeRx i = ((s.closeRx i).1, withLoads (s.closeRx i).2 coef core) := by
    unfold State.closeRx
    rw [show (withLoads s coef core).dx[i] = s.dx[i] from rfl]
    cases s.dx[i].rx with
    | none => rfl
    | some h =>
      dsimp only
      rw [show (withLoads s coef core).octets h = s.octets h from rfl,
        show (withLoads s coef core).parseFcs h = withLoads (s.parseFcs h) coef core from rfl,
        show (withLoads (s.parseFcs h) coef core).frameOk h = (s.parseFcs h).frameOk h from rfl]
      split
      · cases (s.parseFcs h).frameOk h <;> rfl
      · rfl
  unfold State.closeFrame
  rw [hclose]
  rfl

theorem abort_withLoads : (withLoads s coef core).abort i = withLoads (s.abort i) coef core := by
  unfold State.abort
  rw [show (withLoads s coef core).dx[i] = s.dx[i] from rfl]
  cases s.dx[i].rx <;> rfl

/-- A line bit does the same whatever was loaded (R175). -/
theorem destuffBit_withLoads (b : Bool) :
    (withLoads s coef core).destuffBit i b = ((s.destuffBit i b).1, withLoads (s.destuffBit i b).2 coef core) := by
  have hset : ∀ d, (withLoads s coef core).setDx i d = withLoads (s.setDx i d) coef core := fun _ => rfl
  unfold State.destuffBit
  dsimp only
  rw [show (withLoads s coef core).dx[i] = s.dx[i] from rfl]
  simp only [hset, abort_withLoads, dataBit_withLoads, closeFrame_withLoads]
  split
  · split <;> rfl
  · split
    · rfl
    · split <;> rfl

/-! ## The rules -/

theorem onFrame_withLoads (h : Nat) {rule : Handle → State → Reply}
    (hr : ∀ f, rule f (withLoads s coef core) = mapState (withLoads · coef core) (rule f s)) :
    onFrame h rule (withLoads s coef core) = mapState (withLoads · coef core) (onFrame h rule s) := by
  unfold onFrame
  rw [show hostHandle h (withLoads s coef core) = hostHandle h s from rfl]
  cases hostHandle h s with
  | none => rfl
  | some f => exact hr f

theorem rxBitRule_withLoads (b : Bool) :
    rxBitRule i b (withLoads s coef core) = mapState (withLoads · coef core) (rxBitRule i b s) := by
  unfold rxBitRule
  rw [destuffBit_withLoads]
  rcases s.destuffBit i b with ⟨_ | h, t⟩ <;> rfl

theorem stuffRule_withLoads (f : Handle) :
    stuffRule f (withLoads s coef core) = mapState (withLoads · coef core) (stuffRule f s) := by
  unfold stuffRule
  dsimp only
  rw [poolAcquire_withLoads, show (withLoads s coef core).octets f = s.octets f from rfl,
    show (withLoads s coef core).freeChunks = s.freeChunks from rfl]
  split
  · rfl
  · rcases s.poolAcquire .host with _ | ⟨h2, t⟩ <;> rfl

theorem encodeRule_withLoads (mode : Nat) (f : Handle) :
    encodeRule mode f (withLoads s coef core) = mapState (withLoads · coef core) (encodeRule mode f s) := by
  unfold encodeRule
  cases modeOperand mode with
  | none => rfl
  | some m =>
    dsimp only
    rw [frameAppendN_withLoads, show (withLoads s coef core).octets f = s.octets f from rfl,
      show (withLoads s coef core).parityOf = s.parityOf from rfl]
    split
    · rfl
    · cases s.frameAppendN f (s.parityOf m.code (s.octets f)) <;> rfl

theorem statistic_withLoads (hc : s.configured = false) (sel : Nat) :
    (withLoads s coef core).statistic sel = s.statistic sel := by
  have hword : (withLoads s coef core).stateWord = s.stateWord := by
    simp [State.stateWord, State.locked, withLoads, hc]
  unfold State.statistic
  rw [hword]
  rfl

/-- Before the first DEMOD_START no rule but its own depends on what the coefficients and cores hold (R31, R32). -/
theorem ruleOf_withLoads {i : Instr} (hc : s.configured = false) (hi : ∀ tw, i ≠ .demodStart tw) :
    ruleOf i (withLoads s coef core) = mapState (withLoads · coef core) (ruleOf i s) := by
  cases i <;> simp only [ruleOf]
  case nop => rfl
  case sysInit =>
    rw [sysInitRule_eq, sysInitRule_eq, show (withLoads s coef core).initDone = s.initDone from rfl]
    split <;> rfl
  case statRead sel => rw [statistic_withLoads s coef core hc]; split <;> rfl
  case demodStart tw => exact absurd rfl (hi tw)
  case demodStop => rfl
  case demodProcess => simp only [processRule, show (withLoads s coef core).configured = false from hc, hc]; rfl
  case demodLocked =>
    rw [show (withLoads s coef core).locked = s.locked by simp [State.locked, withLoads, hc]]
    rfl
  case hdlcRxBit inst bit =>
    cases instOperand inst with
    | none => rfl
    | some i => exact rxBitRule_withLoads s i coef core bit
  case frameAcquire => rw [poolAcquire_withLoads]; rcases s.poolAcquire .host with _ | ⟨h, t⟩ <;> rfl
  case frameAppend h b =>
    refine onFrame_withLoads s coef core h fun f => ?_
    rw [frameAppend_withLoads]
    cases s.frameAppend f b <;> rfl
  case frameRead h idx =>
    refine onFrame_withLoads s coef core h fun f => ?_
    rw [show (withLoads s coef core).readOctet f idx = s.readOctet f idx from rfl]
    cases s.readOctet f idx <;> rfl
  case frameParseFcs h =>
    refine onFrame_withLoads s coef core h fun f => ?_
    rw [show (withLoads s coef core).octets f = s.octets f from rfl]
    split <;> rfl
  case frameAddFcs h =>
    refine onFrame_withLoads s coef core h fun f => ?_
    rw [addFcs_withLoads]
    cases s.addFcs f <;> rfl
  case hdlcStuff h => exact onFrame_withLoads s coef core h (stuffRule_withLoads s coef core)
  case fx25PickMode len =>
    cases pickMode len with
    | none => rfl
    | some m => dsimp only; cases modeOf m <;> rfl
  case fx25Tag mode => cases modeOperand mode <;> rfl
  case fx25TagSelftest => rw [tagSelftestRule_eq, tagSelftestRule_eq]; rfl
  case rsEncode mode h => exact onFrame_withLoads s coef core h (encodeRule_withLoads s coef core mode)
  case gfAlpha x => rfl
  case gfLog x => rfl
  case rsGenpoly sel idx =>
    cases codeOperand sel with
    | none => rfl
    | some c => dsimp only [genpolyRule]; split <;> rfl
  all_goals exact onFrame_withLoads s coef core _ fun f => rfl

end

/-- Writing all three entries leaves nothing of the vector there was. -/
theorem vectorSet_all {α : Type} (v w : Vector α 3) (x : Fin 3 → α) :
    ((v.set 0 (x 0)).set 1 (x 1)).set 2 (x 2) = ((w.set 0 (x 0)).set 1 (x 1)).set 2 (x 2) := by
  ext j hj
  interval_cases j <;> simp

theorem restartInstance_withLoads (tw : Nat) (s : State) (coef : Vector (List Sample) 3)
    (core : Vector Config.CoreState 3) (i : InstId) :
    State.restartInstance tw (withLoads s coef core) i =
      withLoads (State.restartInstance tw s i) (coef.set i (Config.deemphTable tw i))
        (core.set i (Config.coreInit i)) := by
  unfold State.restartInstance
  rw [show (withLoads s coef core).dx[i] = s.dx[i] from rfl]
  cases s.dx[i].rx <;> rfl

/-- DEMOD_START loads all coefficients and cores, whatever it finds (R141). -/
theorem startBank_withLoads (s : State) (coef : Vector (List Sample) 3) (core : Vector Config.CoreState 3) (tw : Nat) :
    (withLoads s coef core).startBank tw = s.startBank tw := by
  have restart : ∀ c k, [0, 1, 2].foldl (State.restartInstance tw) (withLoads s c k) =
      withLoads ([0, 1, 2].foldl (State.restartInstance tw) s)
        (((c.set 0 (Config.deemphTable tw 0)).set 1 (Config.deemphTable tw 1)).set 2 (Config.deemphTable tw 2))
        (((k.set 0 (Config.coreInit 0)).set 1 (Config.coreInit 1)).set 2 (Config.coreInit 2)) := by
    intro c k
    simp only [List.foldl, restartInstance_withLoads]
    rfl
  have same : [0, 1, 2].foldl (State.restartInstance tw) (withLoads s coef core) =
      [0, 1, 2].foldl (State.restartInstance tw) (withLoads s s.deCoef s.core) := by
    rw [restart, restart, vectorSet_all coef s.deCoef (Config.deemphTable tw),
      vectorSet_all core s.core Config.coreInit]
  unfold State.startBank
  rw [same]
  rfl

/-! ## Two states that differ only in unbuilt fields -/

theorem sameReadable_refl (s : State) : SameReadable s s :=
  ⟨rfl, fun _ => ⟨rfl, rfl, rfl, rfl, rfl⟩, fun _ => ⟨rfl, rfl⟩⟩

theorem sameReadable_withLoads {s : State} (hc : s.configured = false) (coef : Vector (List Sample) 3)
    (core : Vector Config.CoreState 3) : SameReadable s (withLoads s coef core) :=
  ⟨rfl, fun _ => ⟨rfl, rfl, rfl, rfl, rfl⟩, fun h => by rw [hc] at h; cases h⟩

/-- After SYS_INIT only an unstarted bank's coefficients and cores can differ. -/
theorem sameReadable_after_init {s t : State} (h : SameReadable s t) (hi : s.initDone = true) :
    t = s ∨ (s.configured = false ∧ t = withLoads s t.deCoef t.core) := by
  obtain ⟨ht, htables, hbank⟩ := h
  obtain ⟨ha, hx, h16, h32, h64⟩ := htables hi
  rw [ha, hx, h16, h32, h64] at ht
  cases hc : s.configured with
  | false => exact .inr ⟨rfl, ht⟩
  | true =>
    obtain ⟨hcoef, hcore⟩ := hbank hc
    rw [hcoef, hcore] at ht
    exact .inl ht

/-- Replies that the host cannot tell apart. -/
def SameReply : Reply → Reply → Prop
  | .respond c v0 v1 s, .respond d w0 w1 t => c = d ∧ v0 = w0 ∧ v1 = w1 ∧ SameReadable s t
  | .raised c, .raised d => c = d
  | _, _ => False

theorem sameReply_refl (r : Reply) : SameReply r r := by
  cases r with
  | respond c v0 v1 s => exact ⟨rfl, rfl, rfl, sameReadable_refl s⟩
  | raised c => rfl

theorem sameReadable_respond {s t : State} (h : SameReadable s t) (c : Status) (v0 v1 : Word) :
    SameReadable (s.respond c v0 v1) (t.respond c v0 v1) :=
  ⟨congrArg (State.respond · c v0 v1) h.1, h.2⟩

theorem sameReadable_finish {s t : State} {r q : Reply} (h : SameReadable s t) (hr : SameReply r q) :
    SameReadable (r.finish s) (q.finish t) := by
  cases r <;> cases q
  case respond.respond =>
    obtain ⟨rfl, rfl, rfl, hst⟩ := hr
    exact sameReadable_respond hst _ _ _
  case raised.raised =>
    obtain rfl := hr
    exact sameReadable_respond h _ 0 0
  all_goals exact hr.elim

theorem sameReply_mapState {r : Reply} (coef : Vector (List Sample) 3) (core : Vector Config.CoreState 3)
    (hr : Leaves (fun u => u.configured = false) r) : SameReply r (mapState (withLoads · coef core) r) := by
  cases r with
  | respond c v0 v1 u => exact ⟨rfl, rfl, rfl, sameReadable_withLoads hr coef core⟩
  | raised c => rfl

/-- An ordinary command that is ready cannot tell the two states apart. -/
theorem ruleOf_same_of_ready {i : Instr} {s t : State} (h : SameReadable s t) (hi : s.initDone = true) :
    SameReply (ruleOf i s) (ruleOf i t) := by
  rcases sameReadable_after_init h hi with rfl | ⟨hc, ht⟩
  · exact sameReply_refl _
  rw [ht]
  by_cases hstart : ∃ tw, i = .demodStart tw
  · obtain ⟨tw, rfl⟩ := hstart
    simp only [ruleOf, startBank_withLoads]
    exact sameReply_refl _
  · have hne : ∀ tw, i ≠ .demodStart tw := fun tw e => hstart ⟨tw, e⟩
    rw [ruleOf_withLoads s t.deCoef t.core hc hne]
    refine sameReply_mapState _ _ ((ruleOf_allowed i s).mono fun u hu => ?_)
    obtain ⟨-, -, hconf⟩ := (frame_of_allowed hu).loaded fun tw e => hne tw (effectOf_eq_start.mp e)
    rw [hconf, hc]

theorem statistic_same {s t : State} (h : SameReadable s t) (sel : Nat) : t.statistic sel = s.statistic sel := by
  obtain ⟨ht, -, hbank⟩ := h
  have hlocked : t.locked = s.locked := by
    have hconf : t.configured = s.configured := by rw [ht]
    unfold State.locked
    rw [hconf]
    cases hc : s.configured with
    | false => rfl
    | true => rw [(hbank hc).2]
  have hword : t.stateWord = s.stateWord := by
    unfold State.stateWord
    rw [hlocked, ht]
  unfold State.statistic
  rw [hword, ht]

theorem sysInit_same {s t : State} (h : SameReadable s t) :
    SameReply (ruleOf .sysInit s) (ruleOf .sysInit t) := by
  have hinit : t.initDone = s.initDone := by rw [h.1]
  simp only [ruleOf, sysInitRule_eq, hinit]
  refine ⟨rfl, rfl, rfl, ?_⟩
  split
  · exact h
  · exact ⟨congrArg withBuiltTables h.1, fun _ => ⟨rfl, rfl, rfl, rfl, rfl⟩, h.2.2⟩

theorem ruleOf_same {i : Instr} {s t : State} (h : SameReadable s t) (hrun : (gateOf i).check s = none) :
    SameReply (ruleOf i s) (ruleOf i t) := by
  cases i
  case nop => exact ⟨rfl, rfl, rfl, h⟩
  case sysInit => exact sysInit_same h
  case statRead sel =>
    simp only [ruleOf, statistic_same h]
    cases s.statistic sel with
    | none => rfl
    | some v => exact ⟨rfl, rfl, rfl, h⟩
  all_goals exact ruleOf_same_of_ready h (check_afterInit_eq_none.mp hrun).2

/-! ## The machine -/

/-- Two outcomes that no run can tell apart. -/
def SameOutcome (o p : Outcome) : Prop :=
  match o, p with
  | .next s, .next t => SameReadable s t
  | .fault a, .fault b => a = b
  | .refused a, .refused b => a = b
  | _, _ => False

theorem exec_same (i : Instr) {s t : State} (h : SameReadable s t) : SameOutcome (exec i s) (exec i t) := by
  have hcheck : (gateOf i).check t = (gateOf i).check s := by
    rw [h.1]
    rfl
  rw [exec_eq_command, exec_eq_command]
  unfold command
  rw [hcheck]
  cases hc : (gateOf i).check s with
  | some c => exact sameReadable_respond h c 0 0
  | none => exact sameReadable_finish h (ruleOf_same h hc)

theorem execute_same (w : Word) {s t : State} (h : SameReadable s t) : SameOutcome (execute w s) (execute w t) := by
  have hfatal : t.fatal = s.fatal := by rw [h.1]
  unfold execute
  cases decode w with
  | error e => rw [hfatal]; exact sameReadable_respond h _ 0 0
  | ok i => exact exec_same i h

theorem writeRegister_same (r : Register) (w : Word) {s t : State} (h : SameReadable s t) :
    SameOutcome (writeRegister r w s) (writeRegister r w t) := by
  cases r with
  | cmd => exact execute_same w h
  | status => exact h
  | value0 => exact h
  | value1 => exact h

theorem deliver_same (x : List Sample) {s t : State} (h : SameReadable s t) :
    SameReadable (s.deliver x) (t.deliver x) := by
  have hd : t.deliver x = { s.deliver x with
      alphaTo := t.alphaTo, indexOf := t.indexOf, genpoly16 := t.genpoly16, genpoly32 := t.genpoly32,
      genpoly64 := t.genpoly64, deCoef := t.deCoef, core := t.core } := by
    rw [h.1]
    unfold State.deliver
    dsimp only
    split
    · rfl
    · split <;> rfl
  rw [hd]
  rcases deliver_cases s x with ⟨-, hs⟩ | ⟨-, -, -, hs⟩ | ⟨-, -, -, hs⟩ <;> rw [hs] <;> exact ⟨rfl, h.2⟩

/-- No action of the environment tells the two states apart. -/
theorem perform_same (a : HostAction) {s t : State} (h : SameReadable s t) :
    SameOutcome (perform a s) (perform a t) := by
  cases a with
  | command w => exact execute_same w h
  | write address bytes data =>
    unfold perform
    dsimp only
    cases accessAt address bytes with
    | register r => exact writeRegister_same r data h
    | outside => rfl
    | undefined => rfl
  | read address bytes =>
    have hread : ∀ r, t.readRegister r = s.readRegister r := fun r => by rw [h.1]; cases r <;> rfl
    unfold perform
    dsimp only
    cases accessAt address bytes with
    | register r =>
      dsimp only
      rw [hread]
      exact ⟨congrArg (fun u : State => { u with busData := s.readRegister r }) h.1, h.2⟩
    | outside => rfl
    | undefined => rfl
  | deliver block =>
    unfold perform
    dsimp only
    split
    · exact deliver_same block h
    · rfl
  | reset =>
    have hreset : t.resetBlock = s.resetBlock := by rw [h.1]; rfl
    show SameReadable s.resetBlock t.resetBlock
    rw [hreset]
    exact sameReadable_refl _

/-- Settles O16: a step performs one action, and no action tells the two states apart. -/
theorem unbuiltFieldsAreUnobservable : Obligations.UnbuiltFieldsAreUnobservable := by
  intro s t h
  have hinputs : t.inputs = s.inputs := by rw [h.1]
  show SameOutcome (step s) (step t)
  unfold step nextAction
  rw [hinputs]
  cases s.inputs with
  | nil => exact h
  | cons a rest => exact perform_same a ⟨congrArg (fun u : State => { u with inputs := rest }) h.1, h.2⟩

end Sys2Proof.Proofs
end

section
/-!
SUPPORT. The register window: where a bus access lands decides what it does (spec/20_memory.md R68-R79).
-/

namespace Sys2Proof.Proofs

open Sys2Proof.Machine

/-! ## What an access does, by where it lands -/

section
variable {a n : Nat}

theorem perform_read_register {r : Register} (s : State) (h : accessAt a n = .register r) :
    perform (.read a n) s = .next { s with busData := s.readRegister r } := by
  simp only [perform, h]

theorem perform_write_register {r : Register} (w : Word) (s : State) (h : accessAt a n = .register r) :
    perform (.write a n w) s = writeRegister r w s := by
  simp only [perform, h]

/-- No form of the access has a meaning, so both are refused (R76; log entry 3). -/
theorem perform_undefined (w : Word) (s : State) (h : accessAt a n = .undefined) :
    perform (.read a n) s = .refused (.unsupportedAccess a n) ∧
      perform (.write a n w) s = .refused (.unsupportedAccess a n) := by
  simp only [perform, h, and_self]

/-- Nothing of the block is there to access (R69; log entry 4). -/
theorem perform_outside (w : Word) (s : State) (h : accessAt a n = .outside) :
    perform (.read a n) s = .fault (.outsideWindow a) ∧ perform (.write a n w) s = .fault (.outsideWindow a) := by
  simp only [perform, h, and_self]

end

/-! ## Where an access lands -/

/-- An access that touches the window lands on no register unless it is one of the four aligned words: it begins below
the window and reaches in, or it begins at an offset of the window that is no register's (R70, R76). -/
theorem accessAt_undefined {a n : Nat} (hlt : a < Config.regBase + 16)
    (htouch : Config.regBase ≤ a ∨ Config.regBase < a + n)
    (hno : ∀ k, k < 4 → ¬ (a = Config.regBase + 4 * k ∧ n = 4)) : accessAt a n = .undefined := by
  by_cases hle : Config.regBase ≤ a
  · obtain ⟨off, rfl⟩ := Nat.exists_eq_add_of_le hle
    rw [accessAt_add (by omega)]
    rcases windowAccess_cases off n with ⟨hn, hreg⟩ | ⟨-, hundef⟩
    · have haligned : ∃ k, k < 4 ∧ off = 4 * k := ⟨off / 4, by omega, by omega⟩
      obtain ⟨k, hk, rfl⟩ := haligned
      exact absurd ⟨rfl, hn⟩ (hno k hk)
    · exact hundef
  · exact accessAt_straddling (by omega) (htouch.resolve_left hle)

/-- Settles O14: the four aligned words are the registers, and every other access lands outside or is undefined. -/
theorem registerWindowAccesses : Obligations.RegisterWindowAccesses := by
  intro s w
  have hcmd : accessAt Config.regBase 4 = .register .cmd := accessAt_add (off := 0) (by decide) 4
  have hstatus : accessAt (Config.regBase + 0x4) 4 = .register .status := accessAt_add (by decide) 4
  have hvalue0 : accessAt (Config.regBase + 0x8) 4 = .register .value0 := accessAt_add (by decide) 4
  have hvalue1 : accessAt (Config.regBase + 0xC) 4 = .register .value1 := accessAt_add (by decide) 4
  refine ⟨perform_read_register s hcmd, perform_read_register s hstatus, perform_read_register s hvalue0,
    perform_read_register s hvalue1, perform_write_register w s hcmd, rfl, perform_write_register w s hstatus,
    perform_write_register w s hvalue0, perform_write_register w s hvalue1, ?_, ?_⟩
  · intro a n hlt htouch hno
    exact perform_undefined w s (accessAt_undefined hlt htouch hno)
  · intro a n hout
    exact perform_outside w s (accessAt_outside hout)

end Sys2Proof.Proofs
end

section
/-!
SUPPORT. The command encoding: a command as the fields of its word, what the decoder reads from a word, and the two round
trips (spec/30_encoding.md R85-R96).
-/

namespace Sys2Proof.Proofs

open Sys2Proof.Machine Sys2Proof.Safety

/-! ## Bit fields -/

/-- A field of a command word: its lowest bit and its width (R87). -/
structure BitField where
  pos : Nat
  width : Nat

/-- The number a field of a word holds. -/
def BitField.read (f : BitField) (w : Word) : Nat := (w.extractLsb' f.pos f.width).toNat

/-- A word with every bit of a field set and no other. -/
def BitField.mask (f : BitField) : Word := place (2 ^ f.width - 1) f.pos

theorem place_getLsbD (v pos j : Nat) :
    (place v pos).getLsbD j = (decide (j < 32) && decide (pos ≤ j) && v.testBit (j - pos)) := by
  simp only [place, BitVec.getLsbD_shiftLeft, BitVec.getLsbD_ofNat]
  grind

theorem BitField.testBit_read (f : BitField) (w : Word) (k : Nat) :
    (f.read w).testBit k = (decide (k < f.width) && w.getLsbD (f.pos + k)) := by
  rw [BitField.read, BitVec.testBit_toNat, BitVec.getLsbD_extractLsb']

theorem BitField.read_lt (f : BitField) (w : Word) : f.read w < 2 ^ f.width := BitVec.isLt _

theorem BitField.read_or (f : BitField) (a b : Word) : f.read (a ||| b) = f.read a ||| f.read b := by
  simp only [BitField.read, BitVec.extractLsb'_or, BitVec.toNat_or]

/-- A field is 0 in a word that is clear at its bits. -/
theorem BitField.read_eq_zero {f : BitField} {w : Word}
    (h : ∀ j, f.pos ≤ j → j < f.pos + f.width → w.getLsbD j = false) : f.read w = 0 := by
  apply Nat.eq_of_testBit_eq
  intro k
  rw [BitField.testBit_read, Nat.zero_testBit]
  by_cases hk : k < f.width
  · rw [h _ (by omega) (by omega), Bool.and_false]
  · simp [hk]

/-- A number has no bits above a width it fits. -/
theorem testBit_eq_false_of_fits {v width j : Nat} (hv : v < 2 ^ width) (hj : width ≤ j) : v.testBit j = false :=
  Nat.testBit_lt_two_pow (lt_of_lt_of_le hv (Nat.pow_le_pow_right (by decide) hj))

/-- A number that fits its field is read back from it. -/
theorem BitField.read_place {f : BitField} {v : Nat} (hf : f.pos + f.width ≤ 32) (hv : v < 2 ^ f.width) :
    f.read (place v f.pos) = v := by
  apply Nat.eq_of_testBit_eq
  intro k
  rw [BitField.testBit_read, place_getLsbD, Nat.add_sub_cancel_left]
  by_cases hk : k < f.width
  · simp [hk, show f.pos + k < 32 by omega]
  · simp [hk, testBit_eq_false_of_fits hv (Nat.le_of_not_lt hk)]

/-- What a field of a word holds, put back in its place, is the word under the field's mask. -/
theorem BitField.place_read (f : BitField) (w : Word) : place (f.read w) f.pos = w &&& f.mask := by
  apply BitVec.eq_of_getLsbD_eq
  intro j hj
  rw [BitVec.getLsbD_and, BitField.mask, place_getLsbD, place_getLsbD, BitField.testBit_read, Nat.testBit_two_pow_sub_one]
  by_cases hp : f.pos ≤ j
  · simp [hj, hp, Bool.and_comm]
  · simp [hp]

/-! ## Words assembled from fields -/

/-- A word assembled from fields and their values, every other bit 0 (R96). -/
def assemble : List (BitField × Nat) → Word
  | [] => 0
  | (f, v) :: l => place v f.pos ||| assemble l

/-- The bits the listed fields take. -/
def cover : List BitField → Word
  | [] => 0
  | f :: fs => f.mask ||| cover fs

/-- Fields from the highest to the lowest, disjoint, all below bit `top`. -/
def Stacked : Nat → List BitField → Prop
  | _, [] => True
  | top, f :: fs => f.pos + f.width ≤ top ∧ Stacked f.pos fs

/-- Every value fits its field. -/
def Fits (l : List (BitField × Nat)) : Prop := ∀ p ∈ l, p.2 < 2 ^ p.1.width

/-- The fields of a word hold the values listed. -/
def Holds (w : Word) (l : List (BitField × Nat)) : Prop := ∀ p ∈ l, p.1.read w = p.2

theorem fits_of_holds {w : Word} {l : List (BitField × Nat)} (h : Holds w l) : Fits l := by
  intro p hp
  rw [← h p hp]
  exact p.1.read_lt w

theorem Stacked.le_top {top : Nat} {fs : List BitField} (h : Stacked top fs) : ∀ f ∈ fs, f.pos + f.width ≤ top := by
  induction fs generalizing top with
  | nil => simp
  | cons g fs ih =>
    obtain ⟨hg, hfs⟩ := h
    refine List.forall_mem_cons.mpr ⟨hg, fun f hf => ?_⟩
    have := ih hfs f hf
    omega

/-- Nothing reaches the bits above the fields. -/
theorem assemble_getLsbD_of_le {top : Nat} {l : List (BitField × Nat)} (hs : Stacked top (l.map Prod.fst)) (hv : Fits l)
    {j : Nat} (hj : top ≤ j) : (assemble l).getLsbD j = false := by
  induction l generalizing top with
  | nil => simp [assemble]
  | cons p l ih =>
    obtain ⟨f, v⟩ := p
    obtain ⟨hf, hl⟩ : f.pos + f.width ≤ top ∧ Stacked f.pos (l.map Prod.fst) := hs
    obtain ⟨hvf, hvl⟩ : v < 2 ^ f.width ∧ Fits l := List.forall_mem_cons.mp hv
    have hclear : v.testBit (j - f.pos) = false := testBit_eq_false_of_fits hvf (by omega)
    rw [assemble, BitVec.getLsbD_or, place_getLsbD, hclear, ih hl hvl (by omega)]
    simp

/-- Every field of an assembled word holds its value: the fields above and below leave its bits 0. -/
theorem holds_assemble {top : Nat} {l : List (BitField × Nat)} (ht : top ≤ 32) (hs : Stacked top (l.map Prod.fst))
    (hv : Fits l) : Holds (assemble l) l := by
  induction l generalizing top with
  | nil => simp [Holds]
  | cons p l ih =>
    obtain ⟨f, v⟩ := p
    obtain ⟨hf, hl⟩ : f.pos + f.width ≤ top ∧ Stacked f.pos (l.map Prod.fst) := hs
    obtain ⟨hvf, hvl⟩ : v < 2 ^ f.width ∧ Fits l := List.forall_mem_cons.mp hv
    refine List.forall_mem_cons.mpr ⟨?_, fun q hq => ?_⟩
    · have hrest : f.read (assemble l) = 0 :=
        BitField.read_eq_zero fun j hj _ => assemble_getLsbD_of_le hl hvl hj
      rw [assemble, BitField.read_or, BitField.read_place (by omega) hvf, hrest, Nat.or_zero]
    · have hbelow := hl.le_top q.1 (List.mem_map_of_mem hq)
      have hfirst : q.1.read (place v f.pos) = 0 := by
        refine BitField.read_eq_zero fun j _ hj => ?_
        rw [place_getLsbD]
        simp [show ¬ f.pos ≤ j by omega]
      rw [assemble, BitField.read_or, hfirst, Nat.zero_or, ih (by omega) hl hvl q hq]

/-- Assembling what a word's fields hold gives the word back on the bits they take. -/
theorem assemble_of_holds {w : Word} {l : List (BitField × Nat)} (h : Holds w l) :
    assemble l = w &&& cover (l.map Prod.fst) := by
  induction l with
  | nil => simp [assemble, cover]
  | cons p l ih =>
    obtain ⟨f, v⟩ := p
    obtain ⟨rfl, hl⟩ : f.read w = v ∧ Holds w l := List.forall_mem_cons.mp h
    rw [assemble, List.map_cons, cover, BitVec.and_or_distrib_left, ← BitField.place_read, ih hl]

/-! ## The fields of a command -/

/-- The opcode (R85). -/
def opField : BitField := ⟨26, 6⟩
/-- A handle (R87). -/
def handleField : BitField := ⟨20, 6⟩
/-- An octet, a twist index or a GF table index (R87). -/
def octetField : BitField := ⟨0, 8⟩
/-- A mode, a selector or a metadata type (R87). -/
def nibbleField : BitField := ⟨0, 4⟩

/-- The operand fields of a format, from the highest to the lowest (R86). -/
def fieldsOf : Format → List BitField
  | .n => []
  | .h => [handleField]
  | .hb => [handleField, octetField]
  | .hi => [handleField, ⟨0, 16⟩]
  | .hm => [handleField, ⟨4, 4⟩, nibbleField]
  | .t | .x => [octetField]
  | .l => [⟨0, 9⟩]
  | .m | .s => [nibbleField]
  | .mh => [handleField, nibbleField]
  | .g => [⟨8, 2⟩, ⟨0, 7⟩]
  | .ib => [⟨24, 2⟩, ⟨0, 1⟩]

/-- The operands of a command, each with its field (R86, R87). -/
def operands : Instr → List (BitField × Nat)
  | .nop | .sysInit | .demodStop | .demodProcess | .demodLocked | .frameAcquire | .fx25TagSelftest => []
  | .statRead sel => [(nibbleField, sel)]
  | .demodStart tw => [(octetField, tw)]
  | .hdlcRxBit inst bit => [(⟨24, 2⟩, inst), (⟨0, 1⟩, bit.toNat)]
  | .frameRelease h | .frameClear h | .frameSize h | .frameGetMeta h | .frameParseFcs h | .frameAddFcs h | .frameOk h
  | .frameComplete h | .frameGetFcs h | .frameGetCrc h | .hdlcStuff h => [(handleField, h)]
  | .frameAppend h b => [(handleField, h), (octetField, b.toNat)]
  | .frameRead h idx => [(handleField, h), (⟨0, 16⟩, idx)]
  | .frameSetMeta h src typ => [(handleField, h), (⟨4, 4⟩, src.toNat), (nibbleField, typ.toNat)]
  | .fx25PickMode len => [(⟨0, 9⟩, len)]
  | .fx25Tag mode => [(nibbleField, mode)]
  | .rsEncode mode h => [(handleField, h), (nibbleField, mode)]
  | .gfAlpha x | .gfLog x => [(octetField, x.toNat)]
  | .rsGenpoly sel idx => [(⟨8, 2⟩, sel), (⟨0, 7⟩, idx)]

/-- Everything a command's word holds: the opcode, then the operands. -/
def wordFields (i : Instr) : List (BitField × Nat) := (opField, i.opcode) :: operands i

theorem operands_fst (i : Instr) : (operands i).map Prod.fst = fieldsOf i.format := by
  cases i <;> rfl

theorem fieldsOf_stacked (f : Format) : Stacked 26 (fieldsOf f) := by
  cases f <;> simp [fieldsOf, Stacked, handleField, octetField, nibbleField]

theorem wordFields_stacked (i : Instr) : Stacked 32 ((wordFields i).map Prod.fst) := by
  rw [wordFields, List.map_cons, operands_fst]
  exact ⟨le_refl 32, fieldsOf_stacked i.format⟩

/-- Every bit of a word is reserved or opcode, or belongs to an operand (R86). -/
theorem mask_or_cover (f : Format) : f.mask ||| cover (fieldsOf f) = BitVec.allOnes 32 := by
  cases f <;> decide

theorem opcode_lt (i : Instr) : i.opcode < 2 ^ 6 := by
  cases i <;> simp [Instr.opcode]

/-- A command is well-formed when its operands fit their fields; an octet, a nibble and a bit always do. -/
theorem wellFormed_iff_fits (i : Instr) : i.WellFormed ↔ Fits (operands i) := by
  have octet : ∀ b : Byte, b.toNat < 256 := fun b => b.isLt
  have nibble : ∀ n : Nibble, n.toNat < 16 := fun n => n.isLt
  cases i <;>
    simp [Instr.WellFormed, Instr.wellFormed, operands, Fits, handleField, octetField, nibbleField, octet, nibble,
      Bool.toNat_le, and_comm]

theorem operandBits_eq_assemble (i : Instr) : i.operandBits = assemble (operands i) := by
  cases i <;> simp [Instr.operandBits, operands, assemble, BitVec.or_assoc, handleField, octetField, nibbleField]

theorem encode_eq_assemble (i : Instr) : encode i = assemble (wordFields i) := by
  rw [encode, operandBits_eq_assemble]
  rfl

/-- The encoding of every well-formed command has the shape of its row. -/
theorem encode_shape : ∀ i : Instr, Laws.EncodedShape.Statement i
  | .nop => Laws.EncodedShape.nop
  | .sysInit => Laws.EncodedShape.sysInit
  | .statRead sel => Laws.EncodedShape.statRead sel
  | .demodStart tw => Laws.EncodedShape.demodStart tw
  | .demodStop => Laws.EncodedShape.demodStop
  | .demodProcess => Laws.EncodedShape.demodProcess
  | .demodLocked => Laws.EncodedShape.demodLocked
  | .hdlcRxBit inst bit => Laws.EncodedShape.hdlcRxBit inst bit
  | .frameAcquire => Laws.EncodedShape.frameAcquire
  | .frameRelease h => Laws.EncodedShape.frameRelease h
  | .frameClear h => Laws.EncodedShape.frameClear h
  | .frameAppend h b => Laws.EncodedShape.frameAppend h b
  | .frameRead h idx => Laws.EncodedShape.frameRead h idx
  | .frameSize h => Laws.EncodedShape.frameSize h
  | .frameSetMeta h src typ => Laws.EncodedShape.frameSetMeta h src typ
  | .frameGetMeta h => Laws.EncodedShape.frameGetMeta h
  | .frameParseFcs h => Laws.EncodedShape.frameParseFcs h
  | .frameAddFcs h => Laws.EncodedShape.frameAddFcs h
  | .frameOk h => Laws.EncodedShape.frameOk h
  | .frameComplete h => Laws.EncodedShape.frameComplete h
  | .frameGetFcs h => Laws.EncodedShape.frameGetFcs h
  | .frameGetCrc h => Laws.EncodedShape.frameGetCrc h
  | .hdlcStuff h => Laws.EncodedShape.hdlcStuff h
  | .fx25PickMode len => Laws.EncodedShape.fx25PickMode len
  | .fx25Tag mode => Laws.EncodedShape.fx25Tag mode
  | .fx25TagSelftest => Laws.EncodedShape.fx25TagSelftest
  | .rsEncode mode h => Laws.EncodedShape.rsEncode mode h
  | .gfAlpha x => Laws.EncodedShape.gfAlpha x
  | .gfLog x => Laws.EncodedShape.gfLog x
  | .rsGenpoly sel idx => Laws.EncodedShape.rsGenpoly sel idx

/-! ## What the decoder reads -/

theorem shaped_eq_ok_iff {op : Nat} {f : Format} {w : Word} {i j : Instr} :
    shaped op f w i = .ok j ↔ w &&& f.mask = matchWord op ∧ i = j := by
  unfold shaped
  split <;> simp_all

/-- A word of a command's shape has its opcode. -/
theorem opcode_of_shape {w : Word} {i : Instr} (h : w &&& i.format.mask = matchWord i.opcode) : opcode w = i.opcode := by
  have hmask : i.format.mask.extractLsb 31 26 = BitVec.allOnes 6 := by
    cases i.format <;> decide
  calc opcode w = opField.read (place i.opcode 26) := opcode_of_masked h hmask
    _ = i.opcode := BitField.read_place (f := opField) (le_refl 32) (opcode_lt i)

theorem bits_eq_read (w : Word) (hi lo : Nat) : bits w hi lo = BitField.read ⟨lo, hi - lo + 1⟩ w := rfl

theorem extractLsb_eq_iff_read (w : Word) (hi lo : Nat) (x : BitVec (hi - lo + 1)) :
    w.extractLsb hi lo = x ↔ BitField.read ⟨lo, hi - lo + 1⟩ w = x.toNat :=
  BitVec.toNat_inj.symm

theorem getLsbD_eq_iff_read (w : Word) (k : Nat) (b : Bool) :
    w.getLsbD k = b ↔ BitField.read ⟨k, 1⟩ w = b.toNat := by
  have hread : BitField.read ⟨k, 1⟩ w = (w.getLsbD k).toNat := by
    apply Nat.eq_of_testBit_eq
    intro j
    rw [BitField.testBit_read, Nat.testBit_bool_toNat]
    by_cases hj : j = 0 <;> simp [hj]
  rw [hread]
  cases w.getLsbD k <;> cases b <;> decide

/-- For a word with a command's opcode, the decoder tests that command's shape, and the command it has read is this one
exactly when the word's fields hold its operands (R87, R89). -/
theorem decode_of_opcode {w : Word} {i : Instr} (h : opcode w = i.opcode) :
    ∃ j, decode w = shaped i.opcode i.format w j ∧ (j = i ↔ Holds w (operands i)) := by
  unfold decode
  rw [h]
  cases i
  case hdlcRxBit inst bit =>
    refine ⟨_, rfl, ?_⟩
    rw [Instr.hdlcRxBit.injEq, bits_eq_read, getLsbD_eq_iff_read]
    simp [Holds, operands]
  all_goals
    refine ⟨_, rfl, ?_⟩
    simp [Holds, operands, bits_eq_read, extractLsb_eq_iff_read, handleField, octetField, nibbleField, and_comm]

/-- What a word decodes to has the word's opcode: every row of the map answers a command of its own opcode (R88). -/
theorem opcode_of_decode {w : Word} {i : Instr} (h : decode w = .ok i) : opcode w = i.opcode := by
  unfold decode at h
  split at h
  case h_31 => cases h
  all_goals
    next hop =>
    obtain ⟨-, rfl⟩ := shaped_eq_ok_iff.mp h
    exact hop

/-- The decoder gives a command exactly for the words of its shape whose fields hold its operands (R87, R89). -/
theorem decode_eq_ok_iff {w : Word} {i : Instr} :
    decode w = .ok i ↔ w &&& i.format.mask = matchWord i.opcode ∧ Holds w (operands i) := by
  constructor
  · intro h
    obtain ⟨j, hj, hi⟩ := decode_of_opcode (opcode_of_decode h)
    obtain ⟨hs, hji⟩ := shaped_eq_ok_iff.mp (hj.symm.trans h)
    exact ⟨hs, hi.mp hji⟩
  · rintro ⟨hs, hr⟩
    obtain ⟨j, hj, hi⟩ := decode_of_opcode (opcode_of_shape hs)
    rw [hj]
    exact shaped_eq_ok_iff.mpr ⟨hs, hi.mpr hr⟩

/-! ## The rows of the opcode map -/

/-- One command for each row of the map, in the order of the rows (R88). -/
def rowCommands : List Instr :=
  [.nop, .sysInit, .statRead 0, .demodStart 0, .demodStop, .demodProcess, .demodLocked, .hdlcRxBit 0 false,
   .frameAcquire, .frameRelease 0, .frameClear 0, .frameAppend 0 0, .frameRead 0 0, .frameSize 0, .frameSetMeta 0 0 0,
   .frameGetMeta 0, .frameParseFcs 0, .frameAddFcs 0, .frameOk 0, .frameComplete 0, .frameGetFcs 0, .frameGetCrc 0,
   .hdlcStuff 0, .fx25PickMode 0, .fx25Tag 0, .fx25TagSelftest, .rsEncode 0 0, .gfAlpha 0, .gfLog 0, .rsGenpoly 0 0]

/-- Mask and match of a command's row (R86, R89). -/
def rowOf (i : Instr) : Word × Word := (i.format.mask, matchWord i.opcode)

theorem opcodeRows_eq : opcodeRows = rowCommands.map rowOf := by
  decide

theorem rowOf_mem (i : Instr) : rowOf i ∈ opcodeRows := by
  rw [opcodeRows_eq]
  cases i <;> simp [rowCommands, rowOf, Instr.format, Instr.opcode]

/-- The words that decode are those of a row: a word of a command's shape decodes to what its fields hold. -/
theorem decodes_iff_legal (w : Word) : (∃ i, decode w = .ok i) ↔ Legal w := by
  constructor
  · rintro ⟨i, h⟩
    exact ⟨rowOf i, rowOf_mem i, (decode_eq_ok_iff.mp h).1⟩
  · rintro ⟨r, hr, hw⟩
    rw [opcodeRows_eq] at hr
    obtain ⟨i, -, rfl⟩ := List.mem_map.mp hr
    obtain ⟨j, hj, -⟩ := decode_of_opcode (opcode_of_shape hw)
    exact ⟨j, hj.trans (shaped_eq_ok_iff.mpr ⟨hw, rfl⟩)⟩

theorem rowCommands_opcodes : rowCommands.Pairwise fun i j => i.opcode ≠ j.opcode := by
  decide

/-! ## The two round trips -/

/-- Settles O4: the encoding has its row's shape, and its fields hold the operands. -/
theorem decodeOfEncode : Obligations.DecodeOfEncode := by
  intro i hw
  have hfits : Fits (wordFields i) := List.forall_mem_cons.mpr ⟨opcode_lt i, (wellFormed_iff_fits i).mp hw⟩
  have hholds : Holds (encode i) (wordFields i) := by
    rw [encode_eq_assemble]
    exact holds_assemble (le_refl 32) (wordFields_stacked i) hfits
  exact decode_eq_ok_iff.mpr ⟨encode_shape i hw, (List.forall_mem_cons.mp hholds).2⟩

/-- Settles O5: the fields of a word that decodes hold its operands, and the bits outside them are the opcode's and
the reserved ones, which its shape fixes. -/
theorem encodeOfDecode : Obligations.EncodeOfDecode := by
  intro w i h
  obtain ⟨hshape, hholds⟩ := decode_eq_ok_iff.mp h
  refine ⟨(wellFormed_iff_fits i).mpr (fits_of_holds hholds), ?_⟩
  calc encode i = matchWord i.opcode ||| assemble (operands i) := by rw [encode, operandBits_eq_assemble]
    _ = w &&& i.format.mask ||| w &&& cover (fieldsOf i.format) := by
      rw [hshape, assemble_of_holds hholds, operands_fst]
    _ = w &&& BitVec.allOnes 32 := by rw [← BitVec.and_or_distrib_left, mask_or_cover]
    _ = w := BitVec.and_allOnes

/-! ## Legal and illegal words -/

/-- Settles O6: a word shared by two rows would have the opcode of both, and no two rows have the same. -/
theorem legalWordsAreExactlyTheRows : Obligations.LegalWordsAreExactlyTheRows := by
  refine ⟨decodes_iff_legal, ?_⟩
  rw [opcodeRows_eq, List.pairwise_map]
  refine rowCommands_opcodes.imp fun hne w hi hj => hne ?_
  rw [← opcode_of_shape hi, opcode_of_shape hj]

/-- Settles O9: an illegal word decodes to nothing, so outside the fatal state Execute raises ILLEGAL. -/
theorem illegalWordReportsIllegal : Obligations.IllegalWordReportsIllegal := by
  intro s w hw hfatal
  unfold execute
  cases hd : decode w with
  | error e =>
    simp only [hfatal, Bool.false_eq_true, if_false, raised_eq_responded]
    rfl
  | ok i => exact absurd ((decodes_iff_legal w).mp ⟨i, hd⟩) hw

/-- A word worked out as the encoding of a command decodes to it (R96). -/
theorem decode_of_encodes {w : Word} {i : Instr} (h : encode i = w ∧ i.WellFormed) : decode w = .ok i := by
  obtain ⟨rfl, hw⟩ := h
  exact decodeOfEncode i hw

/-- Settles O7: each word is the encoding of its command, and bit 8 of the last is reserved. -/
theorem writtenOutWordsDecode : Obligations.WrittenOutWordsDecode := by
  refine ⟨decode_of_encodes (by decide), decode_of_encodes (by decide), decode_of_encodes (by decide),
    decode_of_encodes (by decide), decode_of_encodes (by decide), decode_of_encodes (by decide),
    decode_of_encodes (by decide), decode_of_encodes (by decide), decode_of_encodes (by decide),
    decode_of_encodes (by decide), decode_of_encodes (by decide), decode_of_encodes (by decide),
    decode_of_encodes (by decide), fun i h => ?_⟩
  have hillegal : ¬ Legal 0x4C200141 := by
    unfold Legal
    decide
  exact hillegal ((decodes_iff_legal _).mp ⟨i, h⟩)

end Sys2Proof.Proofs
end

section
/-!
SUPPORT. The rows of the opcode map as the rules state them, the common checks from outside a command, and the rules of
NOP and SYS_INIT (spec/40_system.md R110, R111; spec/60_exceptions.md R240-R245).
-/

namespace Sys2Proof.Proofs

open Sys2Proof.Machine Sys2Proof.Safety

/-! ## Rows and common checks -/

/-- A row of the opcode map decodes to its command when every word's fields hold the operands the row reads from it
(R86, R87). -/
theorem encodes_of_row {mask mtch : Word} {i : Word → Instr} (hrow : ∀ w, rowOf (i w) = (mask, mtch))
    (hholds : ∀ w, Holds w (operands (i w))) : Encodes mask mtch i := by
  intro w hw
  obtain ⟨hmask, hmatch⟩ := Prod.mk.inj (hrow w)
  refine decode_eq_ok_iff.mpr ⟨?_, hholds w⟩
  calc w &&& (i w).format.mask = w &&& mask := by rw [hmask]
    _ = mtch := hw
    _ = matchWord (i w).opcode := hmatch.symm

/-- The row of a command without operands has no field to read (R86). -/
theorem encodes_of_no_operands {mask mtch : Word} {i : Instr} (hrow : rowOf i = (mask, mtch))
    (hops : operands i = []) : Encodes mask mtch (fun _ => i) := by
  refine encodes_of_row (fun _ => hrow) fun w => ?_
  rw [hops]
  exact List.forall_mem_nil _

/-- A response changes the response registers only (R241). -/
theorem respond_eq_responded (s : State) (c : Status) (v0 v1 : Word) :
    s.respond c v0 v1 = responded s c.code.toNat v0 v1 := by
  cases c <;> rfl

/-- In the fatal state the common checks stop every command but STAT_READ (R240, R245). -/
theorem check_of_fatal {g : Gate} {s : State} (hg : g ≠ .evenFatal) (hs : s.fatal = true) :
    g.check s = some .fatal := by
  cases g with
  | afterInit => exact if_pos hs
  | always => exact if_pos hs
  | evenFatal => exact absurd rfl hg

/-- NOP and SYS_INIT run in every state that is not fatal, before SYS_INIT too (R240). -/
theorem check_always_eq_none {s : State} : Gate.always.check s = none ↔ s.fatal = false := by
  unfold Gate.check
  cases s.fatal <;> simp

theorem exec_of_fatal {i : Instr} {s : State} (hg : gateOf i ≠ .evenFatal) (hs : s.fatal = true) :
    exec i s = .next (responded s 0x1F 0 0) := by
  rw [exec_eq_command, command, check_of_fatal hg hs]
  exact congrArg Host.Outcome.next (raised_eq_responded s .fatal)

/-- A command that no common check stops is its rule (R240). -/
theorem exec_of_check {i : Instr} {s : State} (h : (gateOf i).check s = none) :
    exec i s = .next ((ruleOf i s).finish s) := by
  rw [exec_eq_command, command, h]

/-! ## NOP -/

/-- Settles O20. -/
theorem nopRule : Obligations.NopRule := by
  refine ⟨encodes_of_no_operands (by decide) rfl, fun s => ⟨fun hs => ?_, exec_of_fatal (by decide)⟩⟩
  rw [exec_of_check (check_always_eq_none.mpr hs)]
  exact congrArg Host.Outcome.next (respond_eq_responded s .ok 0 0)

/-! ## SYS_INIT -/

/-- Outside the fatal state SYS_INIT answers OK: a second one in the state it found, the first with the tables built
(R111). -/
theorem exec_sysInit {s : State} (hs : s.fatal = false) :
    exec .sysInit s = .next (responded (if s.initDone then s else withBuiltTables s) 0x00 0 0) := by
  rw [exec_of_check (check_always_eq_none.mpr hs), ruleOf, sysInitRule_eq]
  exact congrArg Host.Outcome.next (respond_eq_responded _ .ok 0 0)

/-- The fatal entry sets `st.fatal` and answers FATAL with its cause (R243, R245). -/
theorem finish_fatalEntry (cause : Word) (s : State) :
    (fatalEntry cause s).finish s = { responded s 0x1F cause 0 with fatal := true } :=
  respond_eq_responded { s with fatal := true } .fatal cause 0

/-- A field polynomial that fails BuildGF's check is the first cause of the fatal state, whatever the tags (R111,
R201). -/
theorem sysInitRule_of_bad_polynomial {p : BitVec 9} (tags : List Long) {s : State} (hinit : s.initDone = false)
    (hp : (buildGf p).ok = false) : sysInitRule p tags s = fatalEntry 1 s := by
  simp [sysInitRule, hinit, hp]

/-- A tag table that fails its self-test is the second cause, past BuildGF's check (R111, R217). -/
theorem sysInitRule_of_bad_tags {p : BitVec 9} {tags : List Long} {s : State} (hinit : s.initDone = false)
    (hp : (buildGf p).ok = true) (htags : tagSelfTest tags = false) : sysInitRule p tags s = fatalEntry 2 s := by
  simp [sysInitRule, hinit, hp, htags]

/-- Settles O21: the spec's constants pass both checks, so `exec` only builds; the causes are the rule's own. Protected,
for the model has a function of this name. -/
protected theorem sysInitRule : Obligations.SysInitRule := by
  refine ⟨encodes_of_no_operands (by decide) rfl, fun s => exec_of_fatal (by decide), fun s hs hinit => ?_,
    fun s hs hinit => ?_, fun p tags s hinit => ⟨fun hp => ?_, fun hp htags => ?_⟩⟩
  · rw [exec_sysInit hs, if_pos hinit]
  · rw [exec_sysInit hs, if_neg (Bool.eq_false_iff.mp hinit)]
    rfl
  · rw [sysInitRule_of_bad_polynomial tags hinit hp, finish_fatalEntry]
  · rw [sysInitRule_of_bad_tags hinit hp htags, finish_fatalEntry]

end Sys2Proof.Proofs
end

section
/-!
SUPPORT. The commands of the demodulator bank from outside, the arbitration of one candidate, and a reception that runs
out of slots or chunks (spec/41_demod_bank.md R127-R131, R140-R145; spec/42_hdlc.md R175, R176).
-/

namespace Sys2Proof.Proofs

open Sys2Proof.Machine Sys2Proof.Safety

/-! ## An ordinary command from outside -/

/-- A command that takes the ordinary gate meets the fatal state, then the SYS_INIT gate (R240). -/
theorem commonChecks_of_gate {i : Instr} (hg : gateOf i = .afterInit) : CommonChecks i := by
  intro s
  refine ⟨exec_of_fatal (by rw [hg]; decide), fun hfatal hinit => ?_⟩
  have hcheck : Gate.afterInit.check s = some .notInit := by simp [Gate.check, hfatal, hinit]
  rw [exec_eq_command, hg, command, hcheck]
  exact congrArg Host.Outcome.next (raised_eq_responded s .notInit)

/-- Past the common checks every command is its rule (R240). -/
theorem exec_of_ready {i : Instr} {s : State} (hs : Ready s) : exec i s = .next ((ruleOf i s).finish s) := by
  rw [exec_eq_command, command_of_ready hs]

/-! ## DEMOD_STOP and DEMOD_LOCKED -/

/-- Settles O24. -/
theorem demodStopRule : Obligations.DemodStopRule :=
  ⟨encodes_of_no_operands (by decide) rfl, commonChecks_of_gate rfl, fun _ hs => exec_of_ready hs⟩

/-- The bank is locked when it is configured and one of its cores is (R140). -/
theorem locked_iff (s : State) :
    s.locked = true ↔ s.configured = true ∧ ∃ i : InstId, Config.coreLocked s.core[i] = true := by
  simp [State.locked, Fin.exists_fin_succ, or_assoc]

/-- Settles O28. -/
theorem demodLockedRule : Obligations.DemodLockedRule := by
  refine ⟨encodes_of_no_operands (by decide) rfl, commonChecks_of_gate rfl, fun s hs => ?_⟩
  rw [exec_of_ready hs]
  simp only [← locked_iff]
  exact congrArg Host.Outcome.next (respond_eq_responded s .ok _ 0)

/-! ## HDLC_RX_BIT -/

theorem instOperand_val (i : InstId) : instOperand i.val = some i := dif_pos i.isLt

theorem instOperand_eq_none {n : Nat} (h : 3 ≤ n) : instOperand n = none := dif_neg (by omega)

theorem hdlcRxBit_encodes :
    Encodes 0xFCFFFFFE 0x30000000 (fun w => .hdlcRxBit (bits w 25 24) (w.getLsbD 0)) := by
  have hrow : rowOf (.hdlcRxBit 0 false) = (0xFCFFFFFE, 0x30000000) := by decide
  refine encodes_of_row (fun _ => hrow) fun w => ?_
  have hbit : BitField.read ⟨0, 1⟩ w = (w.getLsbD 0).toNat := (getLsbD_eq_iff_read w 0 _).mp rfl
  simp [Holds, operands, bits_eq_read, hbit]

/-- HDLC_RX_BIT hands on the frame the bit completed, if it completed one (R145). -/
theorem exec_hdlcRxBit {s : State} (hs : Ready s) (i : InstId) (b : Bool) :
    exec (.hdlcRxBit i.val b) s = .next ((rxBitRule i b s).finish s) := by
  rw [exec_of_ready hs, ruleOf, instOperand_val]

/-- Settles O29, from the two answers of the destuffer. -/
theorem hdlcRxBitRule : Obligations.HdlcRxBitRule := by
  refine ⟨hdlcRxBit_encodes, fun _ _ => commonChecks_of_gate rfl, fun s n b hs hn => ?_, fun s i b hs => ?_⟩
  · rw [exec_of_ready hs, ruleOf, instOperand_eq_none hn]
    exact congrArg Host.Outcome.next (raised_eq_responded s .badOperand)
  · rw [exec_hdlcRxBit hs, rxBitRule]
    rcases s.destuffBit i b with ⟨_ | h, t⟩
    · exact ⟨fun _ h => (nomatch h), fun _ => congrArg Host.Outcome.next (respond_eq_responded t .none 0 0)⟩
    · refine ⟨fun g hg => ?_, fun h => nomatch h⟩
      cases hg
      rfl

/-! ## Arbitration of one candidate -/

/-- A candidate is accepted for a new FCS, or when more than two blocks have elapsed (R127). -/
theorem accepts_iff (s : State) (h : Handle) :
    s.accepts h = true ↔ s.slots[h].fcs ≠ s.lastFcs ∨ 2 < elapsedBlocks s := by
  have helapsed : (s.blockCounter - s.lastBlockCounter).toNat = elapsedBlocks s := by
    have := s.lastBlockCounter.isLt
    rw [BitVec.toNat_sub, elapsedBlocks]
    congr 1
    omega
  simp [State.accepts, helapsed, dedupGap]

/-- With no result yet, an accepted candidate becomes it and is remembered (R129, R130). -/
theorem arbitrate_first {s : State} {h : Handle} (ha : s.accepts h = true) :
    s.arbitrate h none = (some h, { s with lastFcs := s.slots[h].fcs, lastBlockCounter := s.blockCounter }) := by
  rw [State.arbitrate, if_pos ha]

/-- An accepted candidate replaces an earlier result, which is released (R130). -/
theorem arbitrate_replace {s : State} {h r : Handle} (ha : s.accepts h = true) (hne : h ≠ r) :
    s.arbitrate h (some r) = (some h, { s.poolRelease r with
      lastFcs := s.slots[h].fcs, lastBlockCounter := s.blockCounter }) := by
  have hslot : (s.poolRelease r).slots[h] = s.slots[h] := by
    rw [State.poolRelease_slots, slots_set_ne _ _ _ _ hne]
  rw [State.arbitrate, if_pos ha]
  dsimp only
  rw [hslot, State.poolRelease_blockCounter]

/-- A candidate that is not accepted is released (R131). -/
theorem arbitrate_reject {s : State} {h : Handle} (ha : ¬ s.accepts h = true) (result : Option Handle) :
    s.arbitrate h result = (result, s.poolRelease h) := by
  rcases arbitrate_cases s h result with ⟨hacc, -⟩ | ⟨-, heq⟩
  · exact absurd hacc ha
  · exact heq

/-- Settles O30. -/
theorem arbitrationRule : Obligations.ArbitrationRule := by
  intro s h result hne
  refine ⟨fun hacc => ?_, fun hfcs helapsed => ?_⟩
  · have ha := (accepts_iff s h).mpr hacc
    refine ⟨?_, ?_⟩
    · rintro rfl
      exact arbitrate_first ha
    · rintro r rfl
      have hr : h ≠ r := fun e => hne (congrArg some e.symm)
      refine ⟨_, arbitrate_replace ha hr, ?_, ?_⟩
      · show (s.poolRelease r).slots[h] = s.slots[h]
        rw [State.poolRelease_slots, slots_set_ne _ _ _ _ hr]
      · rw [poolRelease_eq]
  · have ha : ¬ s.accepts h = true := fun ha =>
      ((accepts_iff s h).mp ha).elim (fun hf => hf hfcs) (fun he => Nat.not_lt.mpr helapsed he)
    refine ⟨_, arbitrate_reject ha result, fun r hr => ?_, poolRelease_eq s h⟩
    have hrh : r ≠ h := fun e => hne (hr.trans (congrArg some e))
    rw [State.poolRelease_slots, slots_set_ne _ _ _ _ hrh]

/-- What an acceptance remembers (R129). -/
theorem arbitrate_remembers {s : State} {h : Handle} {result : Option Handle} (ha : s.accepts h = true)
    (hne : result ≠ some h) :
    (s.arbitrate h result).2.lastFcs = s.slots[h].fcs ∧
      (s.arbitrate h result).2.lastBlockCounter = (s.arbitrate h result).2.blockCounter := by
  cases result with
  | none => rw [arbitrate_first ha]; exact ⟨rfl, rfl⟩
  | some r =>
    rw [arbitrate_replace ha fun e => hne (congrArg some e.symm)]
    exact ⟨rfl, (State.poolRelease_blockCounter s r).symm⟩

/-- `n` blocks after the counter was remembered, `n` modulo 2^32 have elapsed (R127, R128). -/
theorem elapsedBlocks_add {s : State} (hlast : s.lastBlockCounter = s.blockCounter) (n : Nat) :
    elapsedBlocks { s with blockCounter := s.blockCounter + BitVec.ofNat 32 n } = n % 2 ^ 32 := by
  simp only [elapsedBlocks, hlast, BitVec.toNat_add, BitVec.toNat_ofNat]
  omega

/-- Settles O31: the FCS is the one remembered, so only the blocks elapsed decide. -/
theorem dedupWindow : Obligations.DedupWindow := by
  intro s t h k result res n ha hne harb hk
  obtain ⟨hfcs, hlast⟩ := arbitrate_remembers ha hne
  rw [harb] at hfcs hlast
  rw [accepts_iff, elapsedBlocks_add hlast]
  exact or_iff_right fun hnew => hnew (hk.trans hfcs.symm)

/-! ## Reception that runs out of slots or chunks -/

/-- Without a chunk for an octet that needs one, the frame in reception is released and the destuffer hunts (R176). -/
theorem storeRxOctet_of_exhausted {s : State} {h : Handle} (i : InstId) (o : Byte)
    (hlen : (s.octets h).length % Config.chunkSize = 0) (hchunks : s.freeChunks = 0) :
    s.storeRxOctet i h o = { s with
      dx := s.dx.set i { s.dx[i] with olen := none, rx := none }
      rxDropCount := s.rxDropCount + 1
      slots := s.slots.set h Slot.reset
      free := h :: s.free
      freeChunks := chunks (s.octets h).length } := by
  rw [State.storeRxOctet, frameAppend_eq_none.mpr ⟨hlen, hchunks⟩]
  simp [State.dropRx, State.setDx, poolRelease_eq, hchunks]

/-- The eighth bit of an octet stores the octet (R176). -/
theorem destuffBit_of_eighth {s : State} {i : InstId} {b : Bool} (h7 : s.dx[i].olen = some 7)
    (hb : IsDataBit s.dx[i].ones b) :
    s.destuffBit i b =
      (none, (s.setDx i (tookBit s.dx[i] b 0)).rxOctet i (tookBit s.dx[i] b 0).oacc) := by
  rw [destuffBit_of_isDataBit hb, State.dataBit]
  simp [h7, State.setDx, tookBit, -Fin.getElem_fin]

/-- An octet goes to the frame in reception (R176). -/
theorem rxOctet_of_rx {s : State} {i : InstId} {h : Handle} (o : Byte) (hrx : s.dx[i].rx = some h) :
    s.rxOctet i o = s.storeRxOctet i h o := by
  rw [State.rxOctet, hrx]

/-- With no frame in reception and no free slot the octet is dropped (R176). -/
theorem rxOctet_of_no_slot {s : State} {i : InstId} (o : Byte) (hrx : s.dx[i].rx = none) (hfree : s.free = []) :
    s.rxOctet i o = s.dropRx i := by
  rw [State.rxOctet, hrx]
  dsimp only
  rw [poolAcquire_eq_none.mpr hfree]

/-- With no frame in reception the octet goes to the slot on top of the free list (R155, R176). -/
theorem rxOctet_of_slot {s : State} {i : InstId} {h : Handle} {rest : List Handle} (o : Byte)
    (hrx : s.dx[i].rx = none) (hfree : s.free = h :: rest) :
    s.rxOctet i o =
      (({ s with free := rest }.setOwner h (.rx i)).setDx i { s.dx[i] with rx := some h }).storeRxOctet i h o := by
  rw [State.rxOctet, hrx]
  dsimp only
  rw [State.poolAcquire, hfree]
  rfl

/-- Writing an entry that is there already changes nothing. -/
theorem vectorSet_eq_self {α : Type} {n : Nat} {v : Vector α n} {i : Fin n} {x : α} (h : v[i] = x) : v.set i x = v := by
  subst h
  simp

/-- With a clear slot free but no chunk unused the octet is dropped, and the slot taken for it is free again (R176). -/
theorem rxOctet_of_no_chunk {s : State} {i : InstId} {h : Handle} {rest : List Handle} (o : Byte)
    (hrx : s.dx[i].rx = none) (hfree : s.free = h :: rest) (hclear : s.slots[h] = Slot.reset)
    (hchunks : s.freeChunks = 0) : s.rxOctet i o = s.dropRx i := by
  have hempty :
      (({ s with free := rest }.setOwner h (.rx i)).setDx i { s.dx[i] with rx := some h }).octets h = [] := by
    simp [State.octets, hclear, Slot.reset, -Fin.getElem_fin]
  rw [rxOctet_of_slot o hrx hfree,
    storeRxOctet_of_exhausted i o (by rw [hempty]; exact Nat.zero_mod _) (by exact hchunks), hempty]
  simp [State.setOwner, State.setSlot, State.setDx, State.dropRx, vectorSet_eq_self hclear, hfree, hchunks, ← hrx,
    -Fin.getElem_fin]

/-- Settles O34: the octet goes to the frame in reception, or to a slot acquired for it if there is one. -/
theorem receptionExhaustionIsCounted : Obligations.ReceptionExhaustionIsCounted := by
  intro s i b h7 hb
  have hrx : (s.setDx i (tookBit s.dx[i] b 0)).dx[i].rx = s.dx[i].rx := by
    rw [State.setDx_dx, dx_set_self]
    rfl
  have dropped : s.dx[i].rx = none → (s.setDx i (tookBit s.dx[i] b 0)).dropRx i =
      { s with dx := s.dx.set i (droppedOctet s.dx[i] b), rxDropCount := s.rxDropCount + 1 } := fun hnone => by
    simp [State.dropRx, State.setDx, droppedOctet, tookBit, ← hnone, -Fin.getElem_fin]
  rw [destuffBit_of_eighth h7 hb]
  refine ⟨fun hnone hfree => ?_, fun h rest hnone hfree hclear hchunks => ?_, fun h hsome hlen hchunks => ?_⟩
  · rw [rxOctet_of_no_slot _ (hrx.trans hnone) hfree, dropped hnone]
  · rw [rxOctet_of_no_chunk _ (hrx.trans hnone) hfree hclear hchunks, dropped hnone]
  · rw [rxOctet_of_rx _ (hrx.trans hsome),
      storeRxOctet_of_exhausted (s := s.setDx i (tookBit s.dx[i] b 0)) i _ hlen hchunks]
    simp [State.setDx, State.octets, droppedOctet]

end Sys2Proof.Proofs
end

section
/-!
SUPPORT. DEMOD_START: what restarting demodulators one after the other leaves (spec/41_demod_bank.md R141).
-/

namespace Sys2Proof.Proofs

open Sys2Proof.Machine Sys2Proof.Safety

/-! ## One demodulator restarted -/

/-- A restarted demodulator is loaded for its twist and starts afresh, the others stay (R141). -/
theorem restartInstance_loads (tw : Nat) (s : State) (i : InstId) :
    (State.restartInstance tw s i).dx = s.dx.set i Destuffer.reset ∧
      (State.restartInstance tw s i).deCoef = s.deCoef.set i (Config.deemphTable tw i) ∧
      (State.restartInstance tw s i).deHist = s.deHist.set i (List.replicate (Config.deTaps - 1) 0) ∧
      (State.restartInstance tw s i).core = s.core.set i (Config.coreInit i) := by
  unfold State.restartInstance
  cases s.dx[i].rx with
  | none => exact ⟨rfl, rfl, rfl, rfl⟩
  | some h => simp

/-- A demodulator that receives no frame is restarted without touching the pools. -/
theorem restartInstance_of_no_rx {s : State} {i : InstId} (tw : Nat) (hrx : s.dx[i].rx = none) :
    SamePool s (State.restartInstance tw s i) := by
  unfold State.restartInstance
  rw [hrx]
  exact ⟨rfl, rfl, rfl⟩

/-- Restarting a demodulator releases the frame it receives (R141). -/
theorem restartInstance_of_rx {s : State} {i : InstId} {h : Handle} (tw : Nat) (hrx : s.dx[i].rx = some h) :
    SamePool (s.poolRelease h) (State.restartInstance tw s i) := by
  unfold State.restartInstance
  rw [hrx]
  exact ⟨rfl, rfl, rfl⟩

/-! ## Several demodulators restarted -/

/-- No two destuffers receive into the same slot. -/
def RxDistinct (s : State) : Prop :=
  ∀ (i j : InstId) (h : Handle), s.dx[i].rx = some h → s.dx[j].rx = some h → i = j

theorem rxDistinct_of_ownership {s : State} (hs : RxOwnership s) : RxDistinct s := by
  intro i j h hi hj
  have howner := ((hs i h).mp hi).symm.trans ((hs j h).mp hj)
  cases howner
  rfl

/-- The frames the listed demodulators receive, in order. -/
def framesOf (is : List InstId) (s : State) : List Handle := is.filterMap fun i => s.dx[i].rx

/-- The demodulators `is` of `s` were restarted, in order, and gave `t`. -/
structure Restarted (tw : Nat) (is : List InstId) (s t : State) : Prop where
  loaded : ∀ i ∈ is, t.dx[i] = Destuffer.reset ∧ t.deCoef[i] = Config.deemphTable tw i ∧
    t.deHist[i] = List.replicate (Config.deTaps - 1) 0 ∧ t.core[i] = Config.coreInit i
  others : ∀ i, i ∉ is → t.dx[i] = s.dx[i]
  slots : ∀ h : Handle, t.slots[h] = if ∃ i ∈ is, s.dx[i].rx = some h then Slot.reset else s.slots[h]
  free : t.free = framesOf is.reverse s ++ s.free
  freeChunks : t.freeChunks = s.freeChunks + ((framesOf is s).map fun h => chunks (s.octets h).length).sum

theorem Restarted.nil (tw : Nat) (s : State) : Restarted tw [] s s := by
  constructor <;> simp [framesOf]

/-- One demodulator more: its frame is another one than those released already, so it is as it was at the start. -/
theorem Restarted.concat {tw : Nat} {is : List InstId} {s t : State} {i : InstId} (hr : Restarted tw is s t)
    (hs : RxDistinct s) (hi : i ∉ is) : Restarted tw (is ++ [i]) s (State.restartInstance tw t i) := by
  have hrx : t.dx[i].rx = s.dx[i].rx := by rw [hr.others i hi]
  obtain ⟨hdx, hcoef, hhist, hcore⟩ := restartInstance_loads tw t i
  have hloaded : ∀ j ∈ is ++ [i], (State.restartInstance tw t i).dx[j] = Destuffer.reset ∧
      (State.restartInstance tw t i).deCoef[j] = Config.deemphTable tw j ∧
      (State.restartInstance tw t i).deHist[j] = List.replicate (Config.deTaps - 1) 0 ∧
      (State.restartInstance tw t i).core[j] = Config.coreInit j := by
    intro j hj
    rw [hdx, hcoef, hhist, hcore]
    simp only [getElem_vectorSet]
    by_cases hji : j = i
    · simp [hji]
    · simpa only [if_neg hji] using hr.loaded j (by simpa [hji] using hj)
  have hothers : ∀ j, j ∉ is ++ [i] → (State.restartInstance tw t i).dx[j] = s.dx[j] := by
    intro j hj
    obtain ⟨hjis, hji⟩ : j ∉ is ∧ j ≠ i := by simpa using hj
    rw [hdx, getElem_vectorSet, if_neg hji, hr.others j hjis]
  cases hsrx : s.dx[i].rx with
  | none =>
    obtain ⟨hslots, hfree, hchunks⟩ := restartInstance_of_no_rx tw (hrx.trans hsrx)
    refine ⟨hloaded, hothers, fun g => ?_, ?_, ?_⟩
    · simpa [hslots, hsrx, or_and_right, exists_or, -Fin.getElem_fin] using hr.slots g
    · simpa [hfree, framesOf, hsrx, -Fin.getElem_fin] using hr.free
    · simpa [hchunks, framesOf, hsrx, -Fin.getElem_fin] using hr.freeChunks
  | some h =>
    have hnotin : ¬ ∃ j ∈ is, s.dx[j].rx = some h := by
      rintro ⟨j, hj, hjh⟩
      exact hi (hs j i h hjh hsrx ▸ hj)
    have hslot : t.slots[h] = s.slots[h] := by rw [hr.slots, if_neg hnotin]
    obtain ⟨hslots, hfree, hchunks⟩ := restartInstance_of_rx tw (hrx.trans hsrx)
    refine ⟨hloaded, hothers, fun g => ?_, ?_, ?_⟩
    · rw [hslots, State.poolRelease_slots, getElem_vectorSet]
      by_cases hg : g = h
      · rw [if_pos hg, if_pos ⟨i, by simp, by rw [hsrx, hg]⟩]
      · simpa [hg, Ne.symm hg, hsrx, or_and_right, exists_or, -Fin.getElem_fin] using hr.slots g
    · simp [hfree, framesOf, hsrx, hr.free, -Fin.getElem_fin]
    · simp [hchunks, framesOf, hsrx, hr.freeChunks, State.octets, hslot, Nat.add_assoc, -Fin.getElem_fin]

/-! ## DEMOD_START -/

/-- DEMOD_START restarts all three demodulators, in their order (R141). -/
theorem startBank_restarted {s : State} (hs : RxOwnership s) (tw : Nat) :
    Restarted tw [0, 1, 2] s (s.startBank tw) := by
  have hdistinct := rxDistinct_of_ownership hs
  have hr : Restarted tw [0, 1, 2] s ([0, 1, 2].foldl (State.restartInstance tw) s) :=
    (((Restarted.nil tw s).concat (i := 0) hdistinct (by decide)).concat (i := 1) hdistinct (by decide)).concat
      (i := 2) hdistinct (by decide)
  unfold State.startBank
  generalize [0, 1, 2].foldl (State.restartInstance tw) s = t at hr ⊢
  exact ⟨hr.loaded, hr.others, hr.slots, hr.free, hr.freeChunks⟩

/-- Settles O23: the legal start is `OnlyStart` of what restarting the three demodulators leaves. -/
theorem demodStartRule : Obligations.DemodStartRule := by
  have hrow : rowOf (.demodStart 0) = (0xFFFFFF00, 0x20000000) := by decide
  refine ⟨encodes_of_row (fun _ => hrow) fun w => ?_, fun _ => commonChecks_of_gate rfl, fun s tw hs htw => ?_,
    fun s tw hs hpool htw => ?_⟩
  · simp [Holds, operands, octetField, bits_eq_read]
  · have hbad : twistOperand tw = false := decide_eq_false (Nat.not_lt.mpr htw)
    rw [exec_of_ready hs, ruleOf]
    simp only [hbad]
    exact congrArg Host.Outcome.next (raised_eq_responded s .badOperand)
  · have hgood : twistOperand tw = true := decide_eq_true htw
    obtain ⟨-, -, -, howner⟩ := hpool
    obtain ⟨hloaded, -, hslots, hfree, hchunks⟩ := startBank_restarted howner tw
    have all : ∀ i : InstId, i ∈ ([0, 1, 2] : List InstId) := by decide
    refine ⟨(s.startBank tw).respond .ok 0 0, ?_, ?_, fun i => hloaded i (all i), fun h => ?_, hfree, hchunks⟩
    · rw [exec_of_ready hs, ruleOf]
      simp only [hgood]
      rfl
    · exact congrArg (State.respond · .ok 0 0) (startBank_onlyStart s tw)
    · simpa [all] using hslots h

end Sys2Proof.Proofs
end

section
/-!
SUPPORT. DEMOD_PROCESS: its errors, and one block through the bank as the filters, cores, destuffers and arbitration of
`blockRun` (spec/41_demod_bank.md R120-R132, R143).
-/

namespace Sys2Proof.Proofs

open Sys2Proof.Machine Sys2Proof.Safety

/-! ## The filters over a block -/

/-- The pre-filter over a block, from a history of its filter's length (R121). -/
theorem prefilter_eq_fir (x : List Sample) {s : State} (hs : s.pfHist.length = Config.pfTaps - 1) :
    s.prefilter x = (firOutputs Config.pfCoef s.pfHist Config.pfTaps x,
      { s with pfHist := firHistory s.pfHist Config.pfTaps x }) := by
  have hpos : 0 < Config.pfTaps := by unfold Config.pfTaps; omega
  induction x generalizing s with
  | nil => simp [State.prefilter, firOutputs, firHistory, ← hs]
  | cons v rest ih =>
    rw [firOutputs_cons _ _ v rest hpos hs, firHistory_cons]
    simp only [State.prefilter, ih (s := { s with pfHist := (v :: s.pfHist).take (Config.pfTaps - 1) })
      (length_window v hs)]

/-! ## Line bits through a destuffer -/

theorem destuffRun_append (s : State) (i : InstId) (bs cs : List Bool) :
    destuffRun s i (bs ++ cs) =
      ((destuffRun s i bs).1 ++ (destuffRun (destuffRun s i bs).2 i cs).1,
        (destuffRun (destuffRun s i bs).2 i cs).2) := by
  induction bs generalizing s with
  | nil => rfl
  | cons b bs ih => simp only [List.cons_append, destuffRun_cons, ih, List.append_assoc]

/-- Line bits do the same whatever the filters and cores hold, and leave them (R175). -/
theorem destuffRun_withFilters (s : State) (i : InstId) (hist : Vector (List Sample) 3)
    (core : Vector Config.CoreState 3) (bs : List Bool) :
    destuffRun (s.withFilters hist core) i bs =
      ((destuffRun s i bs).1, (destuffRun s i bs).2.withFilters hist core) := by
  induction bs generalizing s with
  | nil => rfl
  | cons b bs ih => simp only [destuffRun_cons, destuffBit_withFilters, ih]

theorem destuffRun_onlyReception (s : State) (i : InstId) (bs : List Bool) :
    OnlyReception s (destuffRun s i bs).2 := by
  induction bs generalizing s with
  | nil => rfl
  | cons b bs ih =>
    rw [destuffRun_cons]
    exact (destuffBit_onlyReception s i b).trans (ih _)

/-! ## One demodulator over a block -/

/-- Demodulator i's core over its de-emphasis of a filtered block: the line bits and the core left (R122, R124). -/
def coreOver (s : State) (i : InstId) (f : List Sample) : List Bool × Config.CoreState :=
  coreRun s.core[i] (firOutputs s.deCoef[i] s.deHist[i] Config.deTaps f)

/-- The state with demodulator i's filter and core past a filtered block, its line bits still to come. -/
def filtered (s : State) (i : InstId) (f : List Sample) : State :=
  s.withFilters (s.deHist.set i (firHistory s.deHist[i] Config.deTaps f)) (s.core.set i (coreOver s i f).2)

/-- A demodulator's run is its line bits through its destuffer, beside its filter and core (R125). -/
theorem instanceRun_eq (s : State) (i : InstId) (f : List Sample) :
    instanceRun s i f = destuffRun (filtered s i f) i (coreOver s i f).1 := rfl

/-- Demodulator i's core on one filtered sample: the core left and the line bit, if any (R122, R124). -/
def coreStepped (s : State) (i : InstId) (v : Sample) : Config.CoreState × Option Bool :=
  Config.coreStep s.core[i] (Config.firArith s.deCoef[i] (v :: s.deHist[i]))

/-- The state with demodulator i's filter and core past one filtered sample. -/
def sampled (s : State) (i : InstId) (v : Sample) : State :=
  s.withFilters (s.deHist.set i ((v :: s.deHist[i]).take (Config.deTaps - 1)))
    (s.core.set i (coreStepped s i v).1)

/-- One filtered sample puts the line bit it gives, if any, through the destuffer (R125). -/
theorem destuffRun_sampled (s : State) (i : InstId) (v : Sample) :
    destuffRun (sampled s i v) i (coreStepped s i v).2.toList =
      ((s.instanceSample i v).1.toList, (s.instanceSample i v).2) := by
  have hsample : s.instanceSample i v =
      match (coreStepped s i v).2 with
      | none => (none, sampled s i v)
      | some b => (sampled s i v).destuffBit i b := rfl
  rw [hsample]
  cases (coreStepped s i v).2 with
  | none => rfl
  | some b => simp [destuffRun]

section
variable {s : State} {i : InstId}

/-- The first sample's bit, then the bits of the rest from the filter and core it left. -/
theorem coreOver_cons (v : Sample) (f : List Sample) (hs : s.deHist[i].length = Config.deTaps - 1) :
    coreOver s i (v :: f) =
      ((coreStepped s i v).2.toList ++ (coreOver (sampled s i v) i f).1, (coreOver (sampled s i v) i f).2) := by
  have hpos : 0 < Config.deTaps := by unfold Config.deTaps; omega
  unfold coreOver
  rw [firOutputs_cons _ _ v f hpos hs, coreRun_cons]
  simp [sampled, State.withFilters, coreStepped]

theorem filtered_cons (v : Sample) (f : List Sample) (hs : s.deHist[i].length = Config.deTaps - 1) :
    filtered s i (v :: f) = filtered (sampled s i v) i f := by
  unfold filtered
  rw [coreOver_cons v f hs, firHistory_cons]
  simp [sampled, State.withFilters]

theorem filtered_nil (hs : s.deHist[i].length = Config.deTaps - 1) : filtered s i [] = s := by
  have hhist : firHistory s.deHist[i] Config.deTaps [] = s.deHist[i] := by simp [firHistory, ← hs]
  have hcore : (coreOver s i []).2 = s.core[i] := rfl
  unfold filtered
  rw [hhist, hcore, vectorSet_eq_self rfl, vectorSet_eq_self rfl]
  rfl

/-- Reception does not touch the filters and cores, so they go through a block as they would have before it. -/
theorem instanceRun_of_reception {t : State} (ht : OnlyReception s t) (f : List Sample) :
    instanceRun t i f =
      destuffRun (t.withFilters (filtered s i f).deHist (filtered s i f).core) i (coreOver s i f).1 := by
  rw [ht]
  rfl

/-- The first sample through a demodulator, then the rest from where it left it (R125). -/
theorem instanceRun_cons (v : Sample) (f : List Sample) (hs : s.deHist[i].length = Config.deTaps - 1) :
    instanceRun s i (v :: f) =
      ((s.instanceSample i v).1.toList ++ (instanceRun (s.instanceSample i v).2 i f).1,
        (instanceRun (s.instanceSample i v).2 i f).2) := by
  have hrun := destuffRun_sampled s i v
  have hleft : OnlyReception (sampled s i v) (s.instanceSample i v).2 := by
    have h := destuffRun_onlyReception (sampled s i v) i (coreStepped s i v).2.toList
    rwa [hrun] at h
  have hwhole : filtered (sampled s i v) i f = (sampled s i v).withFilters (filtered (sampled s i v) i f).deHist
    (filtered (sampled s i v) i f).core := rfl
  rw [instanceRun_of_reception hleft, destuffRun_withFilters, instanceRun_eq, filtered_cons v f hs,
    coreOver_cons v f hs, hwhole, destuffRun_withFilters, destuffRun_append, hrun]
  rfl

end

/-- The model's run of a demodulator is `instanceRun`, from a history of its filter's length (R125). -/
theorem runInstance_eq_instanceRun (f : List Sample) {s : State} (i : InstId) (hs : FilterLengths s) :
    s.runInstance i f = instanceRun s i f := by
  induction f generalizing s with
  | nil =>
    rw [instanceRun_eq, filtered_nil (hs.2 i).1]
    rfl
  | cons v rest ih =>
    rw [instanceRun_cons v rest (hs.2 i).1, ← ih (instanceSample_filterLengths s i v hs)]
    rfl

/-! ## The whole block -/

/-- A run of a demodulator and its arbitration keep the lengths of the filters' lists. -/
theorem arbitrated_filterLengths {s : State} (i : InstId) (f : List Sample) (result : Option Handle)
    (hs : FilterLengths s) : FilterLengths (arbitrated (instanceRun s i f) result).2 := by
  rw [← runInstance_eq_instanceRun f i hs]
  have hrun := runInstance_keeps instanceSample_filterLengths i f s hs
  have harb := arbitrateAll_keeps arbitrate_filterLengths (s.runInstance i f).1 _ result hrun
  rwa [arbitrateAll_eq_arbitrated] at harb

/-- One demodulator of the block, then the others from its result. -/
theorem runInstances_cons {s : State} (i : InstId) (is : List InstId) (f : List Sample) (result : Option Handle)
    (hs : FilterLengths s) :
    s.runInstances (i :: is) f result =
      (arbitrated (instanceRun s i f) result).2.runInstances is f (arbitrated (instanceRun s i f) result).1 := by
  simp only [State.runInstances, runInstance_eq_instanceRun f i hs, arbitrateAll_eq_arbitrated]

/-- The model's block is `blockRun`, from histories of their filters' lengths (R132). -/
theorem processBlock_eq_blockRun (x : List Sample) {s : State} (hs : FilterLengths s) :
    s.processBlock x = blockRun s x := by
  have hpre : FilterLengths { s with pfHist := firHistory s.pfHist Config.pfTaps x } := by
    have h := prefilter_filterLengths x s hs
    rwa [prefilter_eq_fir x hs.1] at h
  have h0 := arbitrated_filterLengths 0 (firOutputs Config.pfCoef s.pfHist Config.pfTaps x) none hpre
  unfold State.processBlock
  rw [prefilter_eq_fir x hs.1]
  dsimp only
  rw [runInstances_cons 0 _ _ _ hpre, runInstances_cons 1 _ _ _ h0,
    runInstances_cons 2 _ _ _ (arbitrated_filterLengths 1 _ _ h0)]
  rfl

/-! ## DEMOD_PROCESS -/

theorem demodProcess_encodes : Encodes 0xFFFFFFFF 0x28000000 (fun _ => .demodProcess) :=
  encodes_of_no_operands (by decide) rfl

/-- Settles O25. -/
theorem demodProcessErrors : Obligations.DemodProcessErrors := by
  refine ⟨demodProcess_encodes, commonChecks_of_gate rfl, fun s hs => ⟨fun hconf => ?_, fun hconf hempty => ?_⟩⟩
  · rw [exec_of_ready hs, ruleOf, processRule, hconf]
    exact congrArg Host.Outcome.next (raised_eq_responded s .badState)
  · rw [exec_of_ready hs, ruleOf, processRule, hconf, State.queuePop, hempty]
    exact congrArg Host.Outcome.next (raised_eq_responded s .empty)

/-- What DEMOD_PROCESS answers for a block's result in the state the block left (R143). -/
def blockAnswer : Option Handle × State → State
  | (some h, t) => responded t 0x00 (BitVec.ofNat 32 h.val) (if t.locked then 1 else 0)
  | (none, t) => responded t 0x01 0 (if t.locked then 1 else 0)

/-- With the oldest block taken off the queue, the rule of DEMOD_PROCESS answers for it (R143). -/
theorem processRule_of_pop {s u : State} {x : List Sample} (hconf : s.configured = true)
    (hpop : s.queuePop = some (x, u)) : (processRule s).finish s = blockAnswer (u.processBlock x) := by
  simp only [processRule, hconf, hpop, Bool.not_true, Bool.false_eq_true, if_false]
  rcases u.processBlock x with ⟨_ | h, t⟩ <;> rfl

/-- On a configured bank with a block queued, DEMOD_PROCESS answers for the oldest block (R143). -/
theorem exec_demodProcess {s : State} {x : List Sample} {rest : List (List Sample)} (hs : Ready s)
    (hconf : s.configured = true) (hq : s.sampleQueue = x :: rest) :
    exec .demodProcess s = .next (blockAnswer (State.processBlock { s with sampleQueue := rest } x)) := by
  have hpop : s.queuePop = some (x, { s with sampleQueue := rest }) := by rw [State.queuePop, hq]
  rw [exec_of_ready hs, ruleOf, processRule_of_pop hconf hpop]

/-- A block raises the counter by one (R128, R132): reception and arbitration leave it. -/
theorem processBlock_blockCounter (s : State) (x : List Sample) :
    (s.processBlock x).2.blockCounter = s.blockCounter + 1 := by
  have hsample : ∀ (t : State) (i : InstId) (v : Sample), t.blockCounter = s.blockCounter →
      (t.instanceSample i v).2.blockCounter = s.blockCounter := by
    intro t i v ht
    unfold State.instanceSample
    dsimp only
    split
    · exact ht
    · rw [destuffBit_onlyReception]
      exact ht
  have harbitrate : ∀ (t : State) (h : Handle) (r : Option Handle), t.blockCounter = s.blockCounter →
      (t.arbitrate h r).2.blockCounter = s.blockCounter := by
    intro t h r ht
    unfold State.arbitrate
    split
    · cases r with
      | none => exact ht
      | some r => exact (State.poolRelease_blockCounter t r).trans ht
    · exact (State.poolRelease_blockCounter t h).trans ht
  have hpre : (s.prefilter x).2.blockCounter = s.blockCounter := by rw [prefilter_eq]
  have hrun := runInstances_keeps hsample harbitrate [0, 1, 2] (s.prefilter x).1 _ none hpre
  unfold State.processBlock
  dsimp only
  split <;> simp [hrun]

/-- The frame a block answers with is the host's (R132). -/
theorem processBlock_owner {s : State} {x : List Sample} {h : Handle} (hb : (s.processBlock x).1 = some h) :
    (s.processBlock x).2.slots[h].owner = .host := by
  unfold State.processBlock at hb ⊢
  dsimp only at hb ⊢
  split at hb
  · cases hb
    simp
  · cases hb

/-- Settles O26: the first clause is `processBlock_eq_blockRun`, the second what a block writes in every state. -/
theorem demodProcessCompletes : Obligations.DemodProcessCompletes := by
  refine ⟨fun s x rest hs hconf hq hlen => ?_, fun s x rest hs hconf hq => ?_⟩
  · have hlen' : FilterLengths { s with sampleQueue := rest } := hlen
    rw [exec_demodProcess hs hconf hq, processBlock_eq_blockRun x hlen']
    rcases blockRun { s with sampleQueue := rest } x with ⟨r, t⟩
    refine ⟨r, t, rfl, ?_⟩
    cases r <;> rfl
  · have honly := processBlock_onlyBlock { s with sampleQueue := rest } x
    have hcounter := processBlock_blockCounter { s with sampleQueue := rest } x
    have howner := fun h => processBlock_owner (s := { s with sampleQueue := rest }) (x := x) (h := h)
    rw [exec_demodProcess hs hconf hq]
    generalize State.processBlock { s with sampleQueue := rest } x = block at honly hcounter howner ⊢
    obtain ⟨r, t⟩ := block
    have hqueue : t.sampleQueue = rest := congrArg State.sampleQueue honly
    refine ⟨_, rfl, ?_⟩
    cases r with
    | none =>
      refine ⟨hqueue, hcounter, rfl, .inr ⟨rfl, rfl⟩, ?_⟩
      exact congrArg (fun u => responded u 0x01 0 (if t.locked then 1 else 0)) honly
    | some h =>
      refine ⟨hqueue, hcounter, rfl, .inl ⟨rfl, h, rfl, howner h rfl⟩, ?_⟩
      exact congrArg (fun u => responded u 0x00 (BitVec.ofNat 32 h.val) (if t.locked then 1 else 0)) honly

end Sys2Proof.Proofs
end

section
/-!
SUPPORT. What a block does with frames: reception writes only slots that are no host's, a frame a destuffer returns has
passed its check, and arbitration keeps one of them for the host (spec/41_demod_bank.md R126, R129-R133; spec/42_hdlc.md
R175-R178).
-/

namespace Sys2Proof.Proofs

open Sys2Proof.Machine Sys2Proof.Safety

/-! ## One slot written -/

/-- A step of reception for demodulator i writes at most one slot: the one its destuffer receives into, or one it takes
from the free list; neither becomes the host's. -/
def WritesOneSlot (i : InstId) (s t : State) : Prop :=
  t.slots = s.slots ∨ ∃ (h : Handle) (v : Slot), t.slots = s.slots.set h v ∧ (s.dx[i].rx = some h ∨ h ∈ s.free) ∧
    (v.owner = .host → s.slots[h].owner = .host)

/-- Storing an octet writes the slot it goes to, and no owner but to free it (R176). -/
theorem storeRxOctet_slots (s : State) (i : InstId) (h : Handle) (o : Byte) :
    ∃ v : Slot, (s.storeRxOctet i h o).slots = s.slots.set h v ∧ (v.owner = .host → s.slots[h].owner = .host) := by
  unfold State.storeRxOctet
  split
  · next t ht => exact ⟨{ s.slots[h] with octets := s.octets h ++ [o] }, by rw [(frameAppend_eq_some ht).2], id⟩
  · exact ⟨Slot.reset, by simp, fun h => nomatch h⟩

theorem rxOctet_writesOneSlot (s : State) (i : InstId) (o : Byte) : WritesOneSlot i s (s.rxOctet i o) := by
  unfold State.rxOctet
  split
  · next h hrx =>
    obtain ⟨v, hv, hhost⟩ := storeRxOctet_slots s i h o
    exact .inr ⟨h, v, hv, .inl hrx, hhost⟩
  · split
    · exact .inl rfl
    · next h t ha =>
      obtain ⟨hfree, ht⟩ := poolAcquire_eq_some ha
      obtain ⟨v, hv, hhost⟩ := storeRxOctet_slots (t.setDx i { t.dx[i] with rx := some h }) i h o
      have hslots : t.slots = s.slots.set h { s.slots[h] with owner := .rx i } := by rw [ht]
      rw [State.setDx_slots, hslots] at hv hhost
      exact .inr ⟨h, v, by rw [hv, Vector.set_set], .inr (by simp [hfree]), fun hv => absurd (hhost hv) (by simp)⟩

/-- Counting a bit beside the frame in reception does not matter to the slots. -/
theorem writesOneSlot_of_setDx {s t : State} {i : InstId} {d : Destuffer}
    (h : WritesOneSlot i (s.setDx i d) t) (hrx : d.rx = s.dx[i].rx) : WritesOneSlot i s t := by
  simpa [WritesOneSlot, hrx, -Fin.getElem_fin] using h

theorem dataBit_writesOneSlot (s : State) (i : InstId) (b : Bool) : WritesOneSlot i s (s.dataBit i b) := by
  unfold State.dataBit
  split
  · exact .inl rfl
  · dsimp only
    split
    · exact writesOneSlot_of_setDx (rxOctet_writesOneSlot _ i _) rfl
    · exact .inl rfl

theorem abort_writesOneSlot (s : State) (i : InstId) : WritesOneSlot i s (s.abort i) := by
  unfold State.abort
  split
  · next h hrx => exact .inr ⟨h, Slot.reset, State.poolRelease_slots s h, .inl hrx, fun h => nomatch h⟩
  · exact .inl rfl

theorem closeFrame_writesOneSlot (s : State) (i : InstId) : WritesOneSlot i s (s.closeFrame i).2 := by
  show WritesOneSlot i s ((s.closeRx i).2.setDx i _)
  unfold State.closeRx
  split
  · exact .inl rfl
  · next h hrx =>
    split
    · dsimp only
      rw [State.parseFcs_eq]
      split
      · refine .inr ⟨h, { s.slots[h] with
          fcs := receivedFcs (s.octets h), crc := residue (s.octets h), complete := true, metaByte := rxMeta }, ?_,
          .inl hrx, id⟩
        simp
      · exact .inr ⟨h, Slot.reset, by simp, .inl hrx, fun h => nomatch h⟩
    · exact .inr ⟨h, Slot.reset, State.poolRelease_slots s h, .inl hrx, fun h => nomatch h⟩

/-- One line bit writes at most one slot (R175). -/
theorem destuffBit_writesOneSlot (s : State) (i : InstId) (b : Bool) : WritesOneSlot i s (s.destuffBit i b).2 := by
  unfold State.destuffBit
  dsimp only
  split
  · split
    · exact writesOneSlot_of_setDx (abort_writesOneSlot _ i) rfl
    · exact writesOneSlot_of_setDx (dataBit_writesOneSlot _ i true) rfl
  · split
    · exact writesOneSlot_of_setDx (closeFrame_writesOneSlot _ i) rfl
    · split
      · exact .inl rfl
      · exact writesOneSlot_of_setDx (dataBit_writesOneSlot _ i false) rfl

/-! ## A frame that passed its check -/

/-- What a flag makes sure of before it hands a frame on (R177). -/
def Finished (v : Slot) : Prop :=
  v.crc = okSentinel ∧ v.complete = true ∧ v.metaByte = rxMeta ∧ minRxOctets ≤ v.octets.length

/-- A frame a flag hands on is long enough, and its slot is marked as received with its check passed (R177). -/
theorem closeRx_eq_some {s : State} {i : InstId} {h : Handle} (hres : (s.closeRx i).1 = some h) :
    minRxOctets ≤ (s.octets h).length ∧
      (s.closeRx i).2 = s.setSlot h { s.slots[h] with
        fcs := receivedFcs (s.octets h), crc := okSentinel, complete := true, metaByte := rxMeta } := by
  unfold State.closeRx at hres ⊢
  cases hrx : s.dx[i].rx with
  | none => rw [hrx] at hres; cases hres
  | some g =>
    rw [hrx] at hres
    dsimp only at hres ⊢
    split
    · next hlen =>
      rw [if_pos hlen] at hres
      split
      · next hok =>
        rw [if_pos hok] at hres
        cases hres
        have hcrc : residue (s.octets h) = okSentinel := by
          simpa [State.frameOk, State.parseFcs_eq, -Fin.getElem_fin] using hok
        refine ⟨hlen.2, ?_⟩
        simp [State.parseFcs_eq, State.setSlot, hcrc]
      · next hok => rw [if_neg hok] at hres; cases hres
    · next hlen => rw [if_neg hlen] at hres; cases hres

/-- Only a flag returns a frame (R175). -/
theorem destuffBit_eq_some {s : State} {i : InstId} {b : Bool} {h : Handle} (hres : (s.destuffBit i b).1 = some h) :
    s.destuffBit i b = (s.setDx i { s.dx[i] with ones := 0 }).closeFrame i := by
  unfold State.destuffBit at hres ⊢
  dsimp only at hres ⊢
  cases b with
  | true => simp only [if_true] at hres; split at hres <;> cases hres
  | false =>
    simp only [Bool.false_eq_true, if_false] at hres ⊢
    split
    · rfl
    · next h6 =>
      rw [if_neg h6] at hres
      split at hres <;> cases hres

/-- A frame the destuffer returns has passed its check (R177). -/
theorem destuffBit_finished {s : State} {i : InstId} {b : Bool} {h : Handle} (hres : (s.destuffBit i b).1 = some h) :
    Finished (s.destuffBit i b).2.slots[h] := by
  have hclose := destuffBit_eq_some hres
  rw [hclose] at hres ⊢
  obtain ⟨hlen, heq⟩ := closeRx_eq_some hres
  show Finished ((s.setDx i { s.dx[i] with ones := 0 }).closeRx i).2.slots[h]
  rw [heq, State.setSlot_slots, slots_set_self]
  exact ⟨rfl, rfl, rfl, hlen⟩

/-! ## The frames of a block -/

/-- Since `s0` the host owns what it owned, and every frame of `loose` has passed its check. -/
structure FramesKept (s0 : State) (loose : List Handle) (s : State) : Prop where
  finished : ∀ h ∈ loose, Finished s.slots[h]
  hosts : ∀ h : Handle, s.slots[h].owner = .host ↔ s0.slots[h].owner = .host

theorem FramesKept.congr {s0 s t : State} {loose : List Handle} (hk : FramesKept s0 loose s)
    (hslots : t.slots = s.slots) : FramesKept s0 loose t :=
  ⟨by rw [hslots]; exact hk.finished, by rw [hslots]; exact hk.hosts⟩

theorem FramesKept.mono {s0 s : State} {loose loose' : List Handle} (hk : FramesKept s0 loose s)
    (hl : loose' ⊆ loose) : FramesKept s0 loose' s :=
  ⟨fun h hh => hk.finished h (hl hh), hk.hosts⟩

/-- A slot that is neither the host's nor one of the finished frames is written, and does not become the host's. -/
theorem FramesKept.write {s0 s t : State} {loose : List Handle} {h : Handle} {v : Slot} (hk : FramesKept s0 loose s)
    (hslots : t.slots = s.slots.set h v) (hloose : h ∉ loose) (howner : s.slots[h].owner ≠ .host)
    (hv : v.owner ≠ .host) : FramesKept s0 loose t := by
  refine ⟨fun g hg => ?_, fun g => ?_⟩
  · have hne : g ≠ h := fun e => hloose (e ▸ hg)
    rw [hslots, slots_set_ne _ _ _ _ hne]
    exact hk.finished g hg
  · rw [← hk.hosts g, hslots, getElem_vectorSet]
    split
    · next e => subst e; exact iff_of_false hv howner
    · rfl

/-- A block that began in `s0` has come to `s`, with the frames of `loose` finished and not yet settled. -/
structure BlockFrames (s0 : State) (loose : List Handle) (s : State) : Prop where
  sound : PoolSound loose s
  kept : FramesKept s0 loose s

namespace BlockFrames

variable {s0 s t : State} {loose : List Handle} {h : Handle}

theorem loose_ne_host (hp : BlockFrames s0 loose s) (hh : h ∈ loose) : s.slots[h].owner ≠ .host := by
  obtain ⟨i, hi⟩ := hp.sound.owned h hh
  rw [hi]
  exact Owner.noConfusion

/-- A slot that reception may write is no finished frame and not the host's. -/
theorem reception_slot (hp : BlockFrames s0 loose s) {i : InstId} (hh : s.dx[i].rx = some h ∨ h ∈ s.free) :
    h ∉ loose ∧ s.slots[h].owner ≠ .host := by
  rcases hh with hrx | hfree
  · obtain ⟨howner, hloose⟩ := (hp.sound.ownership i h).mp hrx
    exact ⟨hloose, by rw [howner]; exact Owner.noConfusion⟩
  · have howner := (hp.sound.freeList.2 h).mp hfree
    exact ⟨fun hh => hp.sound.ne_free_of_loose hh howner, by rw [howner]; exact Owner.noConfusion⟩

/-- One line bit: a frame it completes joins the finished ones (R175). -/
theorem destuffBit (hp : BlockFrames s0 loose s) (i : InstId) (b : Bool) :
    BlockFrames s0 ((s.destuffBit i b).1.toList ++ loose) (s.destuffBit i b).2 := by
  have hkept : FramesKept s0 loose (s.destuffBit i b).2 := by
    rcases destuffBit_writesOneSlot s i b with hslots | ⟨h, v, hslots, hmay, hhost⟩
    · exact hp.kept.congr hslots
    · obtain ⟨hloose, howner⟩ := hp.reception_slot hmay
      exact hp.kept.write hslots hloose howner fun hv => howner (hhost hv)
  refine ⟨hp.sound.destuffBit b, fun h hh => ?_, hkept.hosts⟩
  rcases List.mem_append.mp hh with hh | hh
  · exact destuffBit_finished (Option.mem_toList.mp hh)
  · exact hkept.finished h hh

theorem instanceSample (hp : BlockFrames s0 loose s) (i : InstId) (v : Sample) :
    BlockFrames s0 ((s.instanceSample i v).1.toList ++ loose) (s.instanceSample i v).2 := by
  unfold State.instanceSample
  dsimp only
  split
  · exact ⟨hp.sound.congr rfl rfl rfl rfl, hp.kept.congr rfl⟩
  · next b _ =>
    refine BlockFrames.destuffBit ?_ i b
    exact ⟨hp.sound.congr rfl rfl rfl rfl, hp.kept.congr rfl⟩

/-- A demodulator's run leaves its candidates finished (R125). -/
theorem runInstance (i : InstId) (f : List Sample) : ∀ {s : State} {loose : List Handle}, BlockFrames s0 loose s →
    BlockFrames s0 ((s.runInstance i f).1 ++ loose) (s.runInstance i f).2 := by
  induction f with
  | nil => exact fun hp => hp
  | cons v rest ih =>
    intro s loose hp
    have h := (ih (hp.instanceSample i v)).kept
    refine ⟨hp.sound.runInstance (v :: rest), h.mono fun g hg => ?_⟩
    simp only [State.runInstance, List.mem_append] at hg ⊢
    tauto

/-- Releasing a finished frame (R130, R131). -/
theorem releaseLoose (hp : BlockFrames s0 (h :: loose) s) : BlockFrames s0 loose (s.poolRelease h) :=
  ⟨hp.sound.releaseLoose, (hp.kept.mono (List.subset_cons_self h loose)).write (State.poolRelease_slots s h)
    (List.nodup_cons.mp hp.sound.nodup).1 (hp.loose_ne_host List.mem_cons_self) (fun h => nomatch h)⟩

/-- Arbitration settles one candidate: it is the result now or released (R129-R131). -/
theorem arbitrate {rest : List Handle} {result : Option Handle}
    (hp : BlockFrames s0 (h :: rest ++ result.toList) s) :
    BlockFrames s0 (rest ++ (s.arbitrate h result).1.toList) (s.arbitrate h result).2 := by
  refine ⟨hp.sound.arbitrate, ?_⟩
  unfold State.arbitrate
  split
  · cases result with
    | none =>
      exact (hp.kept.mono (by simp)).congr rfl
    | some r =>
      have hr : BlockFrames s0 (r :: (h :: rest)) s :=
        ⟨hp.sound.perm (List.perm_append_singleton r (h :: rest)),
          hp.kept.mono (List.perm_append_singleton r (h :: rest)).symm.subset⟩
      exact (hr.releaseLoose.kept.mono (List.perm_append_singleton h rest).subset).congr rfl
  · exact (BlockFrames.releaseLoose hp).kept

theorem arbitrateAll (cands : List Handle) : ∀ {s : State} {result : Option Handle},
    BlockFrames s0 (cands ++ result.toList) s →
      BlockFrames s0 (s.arbitrateAll cands result).1.toList (s.arbitrateAll cands result).2 := by
  induction cands with
  | nil => exact fun hp => hp
  | cons h rest ih => exact fun hp => ih hp.arbitrate

theorem runInstances (f : List Sample) (is : List InstId) : ∀ {s : State} {result : Option Handle},
    BlockFrames s0 result.toList s →
      BlockFrames s0 (s.runInstances is f result).1.toList (s.runInstances is f result).2 := by
  induction is with
  | nil => exact fun hp => hp
  | cons i rest ih => exact fun hp => ih (arbitrateAll _ (hp.runInstance i f))

end BlockFrames

/-! ## What a block hands over -/

/-- Before the hand-over a block has nothing of the host's, and at most one finished frame: its result (R132, R133). -/
theorem runInstances_frames {s : State} (hs : PoolSound [] s) (x : List Sample) :
    BlockFrames s ((s.prefilter x).2.runInstances [0, 1, 2] (s.prefilter x).1 none).1.toList
      ((s.prefilter x).2.runInstances [0, 1, 2] (s.prefilter x).1 none).2 := by
  refine BlockFrames.runInstances (result := none) (s.prefilter x).1 [0, 1, 2] ?_
  rw [prefilter_eq]
  exact ⟨hs.congr rfl rfl rfl rfl, ⟨fun _ hh => (nomatch hh), fun _ => Iff.rfl⟩⟩

/-- A block makes the host the owner of its result and of no other slot; the result was no frame of the host's and has
passed its check (R126, R132, R133). -/
theorem processBlock_frames {s : State} (hs : PoolSound [] s) (x : List Sample) :
    (∀ h : Handle, (s.processBlock x).2.slots[h].owner = .host ↔
      s.slots[h].owner = .host ∨ (s.processBlock x).1 = some h) ∧
    ∀ h : Handle, (s.processBlock x).1 = some h →
      s.slots[h].owner ≠ .host ∧ Finished (s.processBlock x).2.slots[h] := by
  have hrun := runInstances_frames hs x
  unfold State.processBlock
  dsimp only
  generalize (s.prefilter x).2.runInstances [0, 1, 2] (s.prefilter x).1 none = run at hrun ⊢
  obtain ⟨result, t⟩ := run
  cases result with
  | none => exact ⟨fun h => by simpa using hrun.kept.hosts h, fun h hh => nomatch hh⟩
  | some r =>
    refine ⟨fun h => ?_, fun h hh => ?_⟩
    · rw [State.setOwner_slots, getElem_vectorSet, ← hrun.kept.hosts h]
      by_cases hr : h = r
      · simp [hr]
      · simp [hr, Ne.symm hr]
    · cases hh
      refine ⟨fun e => hrun.loose_ne_host (by simp) ((hrun.kept.hosts r).mpr e), ?_⟩
      rw [State.setOwner_slots, slots_set_self]
      exact hrun.kept.finished r (by simp)

/-- A handle is read back from its word. -/
theorem handleWord_inj {g h : Handle} : BitVec.ofNat 32 g.val = BitVec.ofNat 32 h.val ↔ g = h := by
  constructor
  · intro e
    have := congrArg BitVec.toNat e
    simp only [BitVec.toNat_ofNat] at this
    exact Fin.ext (by omega)
  · rintro rfl
    rfl

/-- The answer for a block names its result, if it has one (R143). -/
theorem blockAnswer_names (r : Option Handle) (t : State) (h : Handle) :
    (blockAnswer (r, t)).status = 0x00 ∧ (blockAnswer (r, t)).value0 = BitVec.ofNat 32 h.val ↔ r = some h := by
  cases r with
  | none => simp [blockAnswer, responded]
  | some g => simp [blockAnswer, responded, handleWord_inj]

/-- Settles O27: `processBlock_frames` for the frames handed over, and the invariant after the block for the rest. -/
theorem blockDeliversAtMostOneFrame : Obligations.BlockDeliversAtMostOneFrame := by
  intro s t x rest hinv hs hconf hq hexec
  have hafter : Inv t := exec_inv hinv hexec
  obtain ⟨hpool, -, -⟩ := inv_iff.mp hinv
  obtain ⟨hhost, hresult⟩ := processBlock_frames (s := { s with sampleQueue := rest }) (hpool.congr rfl rfl rfl rfl) x
  rw [exec_demodProcess hs hconf hq] at hexec
  generalize State.processBlock { s with sampleQueue := rest } x = block at hexec hhost hresult
  obtain ⟨r, u⟩ := block
  obtain rfl : blockAnswer (r, u) = t := Host.Outcome.next.inj hexec
  have hslots : (blockAnswer (r, u)).slots = u.slots := by cases r <;> rfl
  refine ⟨fun h => ?_, fun hok h hvalue => ?_, fun h hne hfree => ?_⟩
  · rw [blockAnswer_names, hslots]
    exact hhost h
  · rw [hslots]
    exact hresult h ((blockAnswer_names r u h).mp ⟨hok, hvalue⟩)
  · obtain ⟨⟨-, -, -, howner⟩, -⟩ := hafter
    cases ho : (blockAnswer (r, u)).slots[h].owner with
    | free => exact absurd ho hfree
    | host => exact absurd ho hne
    | rx i => exact ⟨i, (howner i h).mpr ho⟩

end Sys2Proof.Proofs
end

section
/-!
SUPPORT. Frame ownership protects: whatever a command does, it leaves a host frame it does not name as it was
(spec/42_hdlc.md R150, R169; spec/60_exceptions.md R253; spec/70_reset_and_hazards.md R272).
-/

namespace Sys2Proof.Proofs

open Sys2Proof.Machine Sys2Proof.Safety

/-! ## Host frames over a block -/

/-- Every slot the host owned in `s0` is still as it was there. -/
def HostSlotsKept (s0 s : State) : Prop := ∀ h : Handle, s0.slots[h].owner = .host → s.slots[h] = s0.slots[h]

theorem HostSlotsKept.congr {s0 s t : State} (hk : HostSlotsKept s0 s) (hslots : t.slots = s.slots) :
    HostSlotsKept s0 t := fun h hh => by rw [hslots]; exact hk h hh

/-- A slot that was not the host's is written. -/
theorem HostSlotsKept.write {s0 s t : State} {h : Handle} {v : Slot} (hk : HostSlotsKept s0 s)
    (hslots : t.slots = s.slots.set h v) (howner : s0.slots[h].owner ≠ .host) : HostSlotsKept s0 t := by
  intro g hg
  have hne : g ≠ h := by rintro rfl; exact howner hg
  rw [hslots, slots_set_ne _ _ _ _ hne]
  exact hk g hg

/-- A property of the unsettled frames and the state that every filtered sample and every arbitration keeps, the
demodulators of a block keep (R125, R132). -/
theorem runInstances_keeps_loose {P : List Handle → State → Prop}
    (hperm : ∀ {l l' : List Handle} {s}, l.Perm l' → P l s → P l' s)
    (hsample : ∀ {l s} i v, P l s → P ((State.instanceSample s i v).1.toList ++ l) (s.instanceSample i v).2)
    (harbitrate : ∀ {s h rest} {result : Option Handle}, P (h :: rest ++ result.toList) s →
      P (rest ++ (State.arbitrate s h result).1.toList) (s.arbitrate h result).2)
    (f : List Sample) (is : List InstId) {s : State} {result : Option Handle} (hs : P result.toList s) :
    P (s.runInstances is f result).1.toList (s.runInstances is f result).2 := by
  have run : ∀ (i : InstId) (f : List Sample) {l s}, P l s →
      P ((State.runInstance s i f).1 ++ l) (s.runInstance i f).2 := by
    intro i f
    induction f with
    | nil => exact fun hp => hp
    | cons v rest ih =>
      intro l s hp
      refine hperm ?_ (ih (hsample i v hp))
      simp only [State.runInstance, ← List.append_assoc]
      exact List.perm_append_comm.append_right l
  have settle : ∀ (cands : List Handle) {s : State} {result : Option Handle}, P (cands ++ result.toList) s →
      P (s.arbitrateAll cands result).1.toList (s.arbitrateAll cands result).2 := by
    intro cands
    induction cands with
    | nil => exact fun hp => hp
    | cons h rest ih => exact fun hp => ih (harbitrate hp)
  induction is generalizing s result with
  | nil => exact hs
  | cons i rest ih => exact ih (settle _ (run i f hs))

/-- A block that began in `s0` has come to `s`, its unsettled frames finished and the host's frames untouched. -/
def BlockSpares (s0 : State) (loose : List Handle) (s : State) : Prop := BlockFrames s0 loose s ∧ HostSlotsKept s0 s

namespace BlockSpares

variable {s0 s : State} {loose : List Handle}

theorem perm {loose' : List Handle} (hp : BlockSpares s0 loose s) (hl : loose.Perm loose') :
    BlockSpares s0 loose' s :=
  ⟨⟨hp.1.sound.perm hl, hp.1.kept.mono hl.symm.subset⟩, hp.2⟩

/-- The host did not own at the start what is unsettled now. -/
theorem loose_ne_host (hp : BlockSpares s0 loose s) {h : Handle} (hh : h ∈ loose) : s0.slots[h].owner ≠ .host :=
  fun e => hp.1.loose_ne_host hh ((hp.1.kept.hosts h).mpr e)

/-- One line bit writes at most a slot that is free or in reception (R175). -/
theorem destuffBit (hp : BlockSpares s0 loose s) (i : InstId) (b : Bool) :
    BlockSpares s0 ((s.destuffBit i b).1.toList ++ loose) (s.destuffBit i b).2 := by
  refine ⟨hp.1.destuffBit i b, ?_⟩
  rcases destuffBit_writesOneSlot s i b with hslots | ⟨h, v, hslots, hmay, -⟩
  · exact hp.2.congr hslots
  · exact hp.2.write hslots fun e => (hp.1.reception_slot hmay).2 ((hp.1.kept.hosts h).mpr e)

theorem instanceSample (hp : BlockSpares s0 loose s) (i : InstId) (v : Sample) :
    BlockSpares s0 ((s.instanceSample i v).1.toList ++ loose) (s.instanceSample i v).2 := by
  refine ⟨hp.1.instanceSample i v, ?_⟩
  unfold State.instanceSample
  dsimp only
  split
  · exact hp.2.congr rfl
  · next b _ =>
    refine (BlockSpares.destuffBit (s0 := s0) (loose := loose) ⟨⟨?_, ?_⟩, ?_⟩ i b).2
    · exact hp.1.sound.congr rfl rfl rfl rfl
    · exact hp.1.kept.congr rfl
    · exact hp.2.congr rfl

/-- Arbitration releases unsettled frames only (R129-R131). -/
theorem arbitrate {h : Handle} {rest : List Handle} {result : Option Handle}
    (hp : BlockSpares s0 (h :: rest ++ result.toList) s) :
    BlockSpares s0 (rest ++ (s.arbitrate h result).1.toList) (s.arbitrate h result).2 := by
  refine ⟨hp.1.arbitrate, ?_⟩
  have release : ∀ g ∈ h :: rest ++ result.toList, HostSlotsKept s0 (s.poolRelease g) := fun g hg =>
    hp.2.write (State.poolRelease_slots s g) (hp.loose_ne_host hg)
  unfold State.arbitrate
  split
  · cases result with
    | none => exact hp.2.congr rfl
    | some r => exact (release r (by simp)).congr rfl
  · exact release h (by simp)

end BlockSpares

/-- A block leaves every frame of the host as it was: its result was not the host's before (R132, R133). -/
theorem processBlock_hostSlotsKept {s : State} (hs : PoolSound [] s) (x : List Sample) :
    HostSlotsKept s (s.processBlock x).2 := by
  have hrun : BlockSpares s ((s.prefilter x).2.runInstances [0, 1, 2] (s.prefilter x).1 none).1.toList
      ((s.prefilter x).2.runInstances [0, 1, 2] (s.prefilter x).1 none).2 := by
    refine runInstances_keeps_loose (P := BlockSpares s) (fun hl hp => hp.perm hl) (fun i v hp => hp.instanceSample i v)
      (fun hp => hp.arbitrate) _ _ (result := none) ?_
    rw [prefilter_eq]
    exact ⟨⟨hs.congr rfl rfl rfl rfl, ⟨fun _ hh => (nomatch hh), fun _ => Iff.rfl⟩⟩, fun _ _ => rfl⟩
  unfold State.processBlock
  dsimp only
  generalize (s.prefilter x).2.runInstances [0, 1, 2] (s.prefilter x).1 none = run at hrun ⊢
  obtain ⟨result, t⟩ := run
  cases result with
  | none => exact hrun.2.congr rfl
  | some r =>
    exact HostSlotsKept.write (s := { t with blockCounter := t.blockCounter + 1 }) hrun.2 rfl
      (hrun.loose_ne_host (by simp))

/-! ## Host frames, command by command -/

theorem processRule_hostSlotsKept {s : State} (hs : PoolSound [] s) : Leaves (HostSlotsKept s) (processRule s) := by
  unfold processRule
  split
  · trivial
  · split
    · trivial
    · next x t hq =>
      have ht := (queuePop_eq_some hq).2
      have hslots : t.slots = s.slots := by rw [ht]
      have h := processBlock_hostSlotsKept (s := t) (by rw [ht]; exact hs.congr rfl rfl rfl rfl) x
      unfold HostSlotsKept at h
      rw [hslots] at h
      split <;> next hr => rw [hr] at h; exact h

/-- A bit from the host port hands over a frame that was not the host's (R145). -/
theorem rxBitRule_hostSlotsKept {s : State} (hs : PoolSound [] s) (i : InstId) (b : Bool) :
    Leaves (HostSlotsKept s) (rxBitRule i b s) := by
  have start : BlockSpares s [] s :=
    ⟨⟨hs, ⟨fun _ hh => (nomatch hh), fun _ => Iff.rfl⟩⟩, fun _ _ => rfl⟩
  have h := start.destuffBit i b
  unfold rxBitRule
  split
  · next hr => rw [hr] at h; exact h.2.write rfl (h.loose_ne_host (by simp))
  · next hr => rw [hr] at h; exact h.2

/-- DEMOD_START releases the destuffers' frames only (R141). -/
theorem startBank_hostSlotsKept {s : State} (hs : PoolSound [] s) (tw : Nat) : HostSlotsKept s (s.startBank tw) := by
  intro h hh
  obtain ⟨⟨-, -, -, howner⟩, -⟩ := poolSound_nil_iff.mp hs
  rw [(startBank_restarted howner tw).slots, if_neg]
  rintro ⟨i, -, hi⟩
  have hrx := (howner i h).mp hi
  rw [hh] at hrx
  cases hrx

/-- What is taken from the free list was not the host's (R155). -/
theorem acquired_ne_host {s t : State} {o : Owner} {h : Handle} {loose : List Handle} (hs : PoolSound loose s)
    (ha : s.poolAcquire o = some (h, t)) : s.slots[h].owner ≠ .host := by
  rw [(hs.acquired_clear ha).1]
  exact Owner.noConfusion

theorem stuffRule_hostSlotsKept {s : State} (hs : PoolSound [] s) (f : Handle) :
    Leaves (HostSlotsKept s) (stuffRule f s) := by
  unfold stuffRule
  dsimp only
  split
  · trivial
  · split
    · trivial
    · next h2 t ha =>
      have ht : HostSlotsKept s t := HostSlotsKept.write (s := s) (fun _ _ => rfl) (hs.acquired_clear ha).2
        (acquired_ne_host hs ha)
      exact ht.write rfl (acquired_ne_host hs ha)

/-- A rule on a frame is judged on the frame its handle names. -/
theorem leaves_onFrame_named {p : State → Prop} {h : Nat} {rule : Handle → State → Reply} {s : State}
    (hr : ∀ f, HostFrame s h f → Leaves p (rule f s)) : Leaves p (onFrame h rule s) := by
  unfold onFrame
  split
  · next f hf => exact hr f (hostHandle_eq_some.mp hf)
  · trivial

/-- `t` has one slot written since `s`. -/
def WritesSlot (g : Handle) (s t : State) : Prop := ∃ v : Slot, t.slots = s.slots.set g v

/-- A rule that writes no slot but the named frame's leaves the other slots. -/
theorem leaves_onFrame_other {h : Nat} {rule : Handle → State → Reply} {s : State} {f : Handle}
    (hne : some h ≠ some f.val) (hr : ∀ g, Leaves (WritesSlot g s) (rule g s)) :
    Leaves (fun t => t.slots[f] = s.slots[f]) (onFrame h rule s) := by
  refine leaves_onFrame_named fun g hg => (hr g).mono fun t ht => ?_
  obtain ⟨v, hv⟩ := ht
  have hfg : f ≠ g := by rintro rfl; exact hne (congrArg some hg.1)
  rw [hv, slots_set_ne _ _ _ _ hfg]

/-- Every rule leaves a host frame it does not name. -/
theorem ruleOf_spares_unnamed (i : Instr) {s : State} {f : Handle} (hs : PoolSound [] s)
    (hf : s.slots[f].owner = .host) (hi : handleOf i ≠ some f.val) :
    Leaves (fun t => t.slots[f] = s.slots[f]) (ruleOf i s) := by
  have kept : ∀ {r : Reply}, Leaves (HostSlotsKept s) r → Leaves (fun t => t.slots[f] = s.slots[f]) r :=
    fun hr => hr.mono fun t ht => ht f hf
  have sparing : (effectOf i).SparesPool → Leaves (fun t => t.slots[f] = s.slots[f]) (ruleOf i s) := by
    intro he
    refine (ruleOf_allowed i s).mono fun t ht => ?_
    obtain ⟨hslots, -, -⟩ := (frame_of_allowed ht).pool he
    rw [hslots]
  cases i
  case demodStart tw =>
    simp only [ruleOf]
    split
    · exact startBank_hostSlotsKept hs tw f hf
    · trivial
  case demodProcess => exact kept (processRule_hostSlotsKept hs)
  case hdlcRxBit inst bit =>
    simp only [ruleOf]
    split
    · exact kept (rxBitRule_hostSlotsKept hs _ _)
    · trivial
  case frameAcquire =>
    refine kept ?_
    simp only [ruleOf]
    split
    · trivial
    · next ha =>
      exact HostSlotsKept.write (s := s) (fun _ _ => rfl) (hs.acquired_clear ha).2 (acquired_ne_host hs ha)
  case frameRelease h =>
    simp only [ruleOf]
    exact leaves_onFrame_other hi fun g => ⟨_, State.poolRelease_slots s g⟩
  case frameClear h =>
    simp only [ruleOf]
    exact leaves_onFrame_other hi fun g => ⟨_, rfl⟩
  case frameAppend h b =>
    simp only [ruleOf]
    refine leaves_onFrame_other hi fun g => ?_
    split
    · trivial
    · next ha => rw [leaves_respond, (frameAppend_eq_some ha).2]; exact ⟨_, rfl⟩
  case frameSetMeta h src typ =>
    simp only [ruleOf]
    exact leaves_onFrame_other hi fun g => ⟨_, rfl⟩
  case frameParseFcs h =>
    simp only [ruleOf]
    refine leaves_onFrame_other hi fun g => ?_
    split
    · trivial
    · exact ⟨_, rfl⟩
  case frameAddFcs h =>
    simp only [ruleOf]
    refine leaves_onFrame_other hi fun g => ?_
    split
    · trivial
    · next ha => rw [leaves_respond, (addFcs_eq_some ha).2]; exact ⟨_, rfl⟩
  case hdlcStuff h => simp only [ruleOf]; exact kept (leaves_onFrame fun g _ => stuffRule_hostSlotsKept hs g)
  case rsEncode mode h =>
    simp only [ruleOf]
    refine leaves_onFrame_other hi fun g => ?_
    unfold encodeRule
    split
    · trivial
    · split
      · trivial
      · split
        · trivial
        · next ha => rw [leaves_respond, (frameAppendN_eq_some ha).2]; exact ⟨_, rfl⟩
  all_goals exact sparing trivial

/-- Settles O19: a raise writes no slot, and no rule reaches a host frame its command does not name. -/
theorem unnamedHostFramesUntouched : Obligations.UnnamedHostFramesUntouched := by
  intro i s t f hinv hexec hhost hname
  rcases exec_cases hexec with ⟨c, rfl⟩ | ⟨-, rfl⟩
  · rfl
  · obtain ⟨hs, -, -⟩ := inv_iff.mp hinv
    exact (ruleOf_spares_unnamed i hs hhost hname).finish rfl fun t c v0 v1 ht => ht

end Sys2Proof.Proofs
end

section
/-!
SUPPORT. The frame commands that take, release, fill and read host frames (spec/42_hdlc.md R180-R187, R190-R193).
-/

namespace Sys2Proof.Proofs

open Sys2Proof.Machine Sys2Proof.Safety

/-! ## A command on a frame, from outside -/

/-- The row of a command whose only operand is a handle (R86, R87). -/
theorem encodes_of_handle {mask mtch : Word} {i : Nat → Instr} (hrow : rowOf (i 0) = (mask, mtch))
    (hsame : ∀ h, rowOf (i h) = rowOf (i 0)) (hops : ∀ h, operands (i h) = [(handleField, h)]) :
    Encodes mask mtch (fun w => i (bits w 25 20)) := by
  refine encodes_of_row (fun _ => (hsame _).trans hrow) fun w => ?_
  simp [Holds, hops, handleField, bits_eq_read]

/-- A command whose rule is on a frame refuses a bad handle, whatever the rule (R169). -/
theorem handleChecked_of_onFrame {i : Nat → Instr} {rule : Handle → State → Reply}
    (hrule : ∀ h, ruleOf (i h) = onFrame h rule) : HandleChecked i := by
  intro s h hs hb
  rw [exec_of_ready hs, hrule, onFrame_of_bad hb]
  exact congrArg Host.Outcome.next (raised_eq_responded s .badHandle)

section
variable {s : State} {h : Nat} {f : Handle}

/-- On a host frame a command is its rule for that frame (R169). -/
theorem exec_of_hostFrame {i : Instr} {rule : Handle → State → Reply} (hrule : ruleOf i = onFrame h rule)
    (hs : Ready s) (hf : HostFrame s h f) : exec i s = .next ((rule f s).finish s) := by
  rw [exec_of_ready hs, hrule, onFrame_of_host hf]

/-- A rule that only reads a frame changes the responses (R241). -/
theorem exec_of_reader {i : Instr} {rule : Handle → State → Reply} {v : Word} (hrule : ruleOf i = onFrame h rule)
    (hs : Ready s) (hf : HostFrame s h f) (hv : rule f s = .respond .ok v 0 s) :
    exec i s = .next (responded s 0x00 v 0) := by
  rw [exec_of_hostFrame hrule hs hf, hv]
  exact congrArg Host.Outcome.next (respond_eq_responded s .ok v 0)

/-- A rule that raises changes the responses only (R243). -/
theorem exec_of_raise {i : Instr} {rule : Handle → State → Reply} {c : Status} (hrule : ruleOf i = onFrame h rule)
    (hs : Ready s) (hf : HostFrame s h f) (hr : rule f s = .raised c) :
    exec i s = .next (responded s c.code.toNat 0 0) := by
  rw [exec_of_hostFrame hrule hs hf, hr]
  exact congrArg Host.Outcome.next (raised_eq_responded s c)

end

/-! ## Values as words -/

theorem ofBits_eq_ofNat {w : Nat} (v : BitVec w) : Word.ofBits v = BitVec.ofNat 32 v.toNat :=
  (BitVec.ofNat_toNat 32 v).symm

/-- Two bit vectors side by side, as a number. -/
theorem append_eq_ofNat {m n : Nat} (x : BitVec m) (y : BitVec n) :
    x ++ y = BitVec.ofNat (m + n) (2 ^ n * x.toNat + y.toNat) := by
  apply BitVec.eq_of_toNat_eq
  have hvalue : (x ++ y).toNat = 2 ^ n * x.toNat + y.toNat := by
    rw [BitVec.toNat_append, ← Nat.shiftLeft_add_eq_or_of_lt y.isLt, Nat.shiftLeft_eq, Nat.mul_comm]
  rw [BitVec.toNat_ofNat, ← hvalue, Nat.mod_eq_of_lt (x ++ y).isLt]

/-! ## FRAME_ACQUIRE, FRAME_RELEASE, FRAME_CLEAR -/

/-- Settles O36. -/
theorem frameAcquireRule : Obligations.FrameAcquireRule := by
  refine ⟨encodes_of_no_operands (by decide) rfl, commonChecks_of_gate rfl, fun s hs => ⟨fun hfree => ?_,
    fun h rest hfree => ?_⟩⟩
  · rw [exec_of_ready hs]
    simp only [ruleOf, poolAcquire_eq_none.mpr hfree]
    exact congrArg Host.Outcome.next (raised_eq_responded s .poolExhausted)
  · rw [exec_frameAcquire hs hfree]
    rfl

/-- Settles O37. -/
theorem frameReleaseRule : Obligations.FrameReleaseRule := by
  refine ⟨encodes_of_handle (by decide) (fun _ => rfl) (fun _ => rfl), fun _ => commonChecks_of_gate rfl,
    handleChecked_of_onFrame (fun _ => rfl), fun s h f hs hf => ?_⟩
  rw [exec_frameRelease hs hf, poolRelease_eq]
  rfl

/-- Settles O38: the owner Clear keeps is the host. -/
theorem frameClearRule : Obligations.FrameClearRule := by
  refine ⟨encodes_of_handle (by decide) (fun _ => rfl) (fun _ => rfl), fun _ => commonChecks_of_gate rfl,
    handleChecked_of_onFrame (fun _ => rfl), fun s h f hs hf => ?_⟩
  rw [exec_of_hostFrame rfl hs hf, State.clear, hf.2]
  rfl

/-! ## FRAME_APPEND, FRAME_READ -/

/-- With a chunk to spare where one is needed, FrameAppend appends (R157). -/
theorem frameAppend_of_room {s : State} {f : Handle} {b : Byte}
    (hroom : (s.octets f).length % Config.chunkSize = 0 → s.freeChunks ≠ 0) :
    s.frameAppend f b = some { s with
      slots := s.slots.set f { s.slots[f] with octets := s.octets f ++ [b] }
      freeChunks := s.freeChunks - (if (s.octets f).length % Config.chunkSize = 0 then 1 else 0) } := by
  cases ha : s.frameAppend f b with
  | none =>
    obtain ⟨hz, hc⟩ := frameAppend_eq_none.mp ha
    exact absurd hc (hroom hz)
  | some t => exact congrArg some (frameAppend_eq_some ha).2

/-- Settles O39. -/
theorem frameAppendRule : Obligations.FrameAppendRule := by
  have hrow : rowOf (.frameAppend 0 0) = (0xFC0FFF00, 0x4C000000) := by decide
  refine ⟨encodes_of_row (fun _ => hrow) fun w => ?_, fun _ _ => commonChecks_of_gate rfl,
    fun _ => handleChecked_of_onFrame (fun _ => rfl), fun s h f b hs hf => ⟨fun hz hc => ?_, fun hroom => ?_⟩⟩
  · exact List.forall_mem_cons.mpr ⟨rfl, List.forall_mem_cons.mpr ⟨rfl, List.forall_mem_nil _⟩⟩
  · exact exec_of_raise (c := .poolExhausted) rfl hs hf (by simp only [frameAppend_eq_none.mpr ⟨hz, hc⟩])
  · have happend := frameAppend_of_room (b := b) fun hz => hroom.resolve_left (not_not_intro hz)
    rw [exec_of_hostFrame rfl hs hf, happend]
    simp only [Reply.finish, State.octets, slots_set_self, List.length_append, List.length_singleton]
    rfl

/-- Settles O40: the handle is checked before the index. -/
theorem frameReadRule : Obligations.FrameReadRule := by
  have hrow : rowOf (.frameRead 0 0) = (0xFC0F0000, 0x50000000) := by decide
  refine ⟨encodes_of_row (fun _ => hrow) fun w => ?_, fun _ _ => commonChecks_of_gate rfl,
    fun _ => handleChecked_of_onFrame (fun _ => rfl), fun s h idx f hs hf => ⟨fun hlt => ?_, fun hge => ?_⟩⟩
  · simp [Holds, operands, handleField, bits_eq_read]
  · have hread : s.readOctet f idx = some (s.octets f)[idx] := List.getElem?_eq_getElem hlt
    exact exec_of_reader rfl hs hf (by simp only [hread, ofBits_eq_ofNat])
  · have hread : s.readOctet f idx = none := List.getElem?_eq_none hge
    exact exec_of_raise (c := .badOperand) rfl hs hf (by simp only [hread])

/-! ## The readers and FRAME_SET_META -/

/-- Settles O41. -/
theorem frameReadersRule : Obligations.FrameReadersRule := by
  refine ⟨encodes_of_handle (by decide) (fun _ => rfl) (fun _ => rfl),
    encodes_of_handle (by decide) (fun _ => rfl) (fun _ => rfl),
    encodes_of_handle (by decide) (fun _ => rfl) (fun _ => rfl),
    encodes_of_handle (by decide) (fun _ => rfl) (fun _ => rfl),
    encodes_of_handle (by decide) (fun _ => rfl) (fun _ => rfl),
    encodes_of_handle (by decide) (fun _ => rfl) (fun _ => rfl),
    fun _ => ⟨commonChecks_of_gate rfl, commonChecks_of_gate rfl, commonChecks_of_gate rfl, commonChecks_of_gate rfl,
      commonChecks_of_gate rfl, commonChecks_of_gate rfl⟩,
    handleChecked_of_onFrame (fun _ => rfl), handleChecked_of_onFrame (fun _ => rfl),
    handleChecked_of_onFrame (fun _ => rfl), handleChecked_of_onFrame (fun _ => rfl),
    handleChecked_of_onFrame (fun _ => rfl), handleChecked_of_onFrame (fun _ => rfl), fun s h f hs hf => ?_⟩
  have hok : Word.ofBool (s.frameOk f) = if s.slots[f].crc = 0x0F47 then 1 else 0 :=
    if_congr decide_eq_true_iff rfl rfl
  refine ⟨exec_of_reader rfl hs hf rfl, exec_of_reader rfl hs hf ?_, exec_of_reader rfl hs hf ?_,
    exec_of_reader rfl hs hf rfl, exec_of_reader rfl hs hf ?_, exec_of_reader rfl hs hf ?_⟩
  · rw [ofBits_eq_ofNat]
  · rw [hok]
  · rw [ofBits_eq_ofNat]
  · rw [ofBits_eq_ofNat]

/-- Settles O42. -/
theorem frameSetMetaRule : Obligations.FrameSetMetaRule := by
  have hrow : rowOf (.frameSetMeta 0 0 0) = (0xFC0FFF00, 0x58000000) := by decide
  refine ⟨encodes_of_row (fun _ => hrow) fun w => ?_, fun _ _ _ => commonChecks_of_gate rfl,
    fun _ _ => handleChecked_of_onFrame (fun _ => rfl), fun s h f src typ hs hf => ?_⟩
  · exact List.forall_mem_cons.mpr ⟨rfl, List.forall_mem_cons.mpr ⟨rfl, List.forall_mem_cons.mpr
      ⟨rfl, List.forall_mem_nil _⟩⟩⟩
  · have hmeta : packMeta src typ = BitVec.ofNat 8 (16 * src.toNat + typ.toNat) := append_eq_ofNat src typ
    rw [exec_of_hostFrame rfl hs hf, hmeta]
    rfl

end Sys2Proof.Proofs
end

section
/-!
SUPPORT. CRC-16/X.25: the residue of a frame with its FCS, the source's accumulator form, and the two FCS commands
(spec/42_hdlc.md R159-R165, R188, R189).
-/

namespace Sys2Proof.Proofs

open Sys2Proof.Machine Sys2Proof.Safety

/-! ## The residue -/

/-- A zero bit through the CRC register. -/
def crcZero (reg : Half) : Half := crcBit reg false

/-- What a bit does to the register, a zero bit does to the register with that bit added: the message bits still to
come, `f`, can be added to the register at once. -/
theorem crcBit_xor (reg f : Half) : crcBit reg (f.getLsbD 0) ^^^ f >>> 1 = crcZero (reg ^^^ f) := by
  have hlow : (reg ^^^ f).getLsbD 0 = (reg.getLsbD 0 ^^ f.getLsbD 0) := BitVec.getLsbD_xor
  unfold crcZero crcBit
  rw [hlow, Bool.xor_false, BitVec.ushiftRight_xor_distrib]
  split
  · rw [BitVec.xor_assoc, BitVec.xor_comm 0x8408, ← BitVec.xor_assoc]
  · rfl

/-- The first n bits of a 16-bit value through the register, the others added to what they leave. -/
theorem foldl_crcBit_xor (reg f : Half) (n : Nat) :
    ((List.range n).map f.getLsbD).foldl crcBit reg ^^^ f >>> n = crcZero^[n] (reg ^^^ f) := by
  induction n with
  | zero => simp
  | succ n ih =>
    have hbit : (f >>> n).getLsbD 0 = f.getLsbD n := by rw [BitVec.getLsbD_ushiftRight, Nat.add_zero]
    rw [List.range_succ, List.map_append, List.foldl_append, Function.iterate_succ_apply', ← ih, ← crcBit_xor, hbit,
      BitVec.shiftRight_add]
    rfl

/-- The polynomial's top bit is set, so it tells from the register whether it was added: nothing is lost. -/
theorem crcZero_injective : Function.Injective crcZero := by
  intro a b h
  have top : ∀ r : Half, (crcZero r).getLsbD 15 = r.getLsbD 0 := by
    intro r
    have hshift : (r >>> 1).getLsbD 15 = false := by simp
    unfold crcZero crcBit
    rw [Bool.xor_false]
    split
    · next hr => rw [BitVec.getLsbD_xor, hshift, hr]; decide
    · next hr => rw [hshift]; exact (Bool.eq_false_iff.mpr hr).symm
  have hlow : a.getLsbD 0 = b.getLsbD 0 := by rw [← top a, h, top b]
  have hhigh : a >>> 1 = b >>> 1 := by
    unfold crcZero crcBit at h
    rw [hlow] at h
    split at h
    · exact (BitVec.xor_left_inj _).mp h
    · exact h
  apply BitVec.eq_of_getLsbD_eq
  intro k hk
  cases k with
  | zero => exact hlow
  | succ k =>
    have := congrArg (·.getLsbD k) hhigh
    simpa [BitVec.getLsbD_ushiftRight, Nat.add_comm 1 k] using this

/-- An FCS's octets, low octet first, are its bits from the lowest up (R71, R72). -/
theorem octetBits_fcsOctets (f : Half) :
    (fcsOctets f).flatMap octetBits = (List.range 16).map f.getLsbD := by
  simp [fcsOctets, octetBits, List.range_succ]

/-- Octets through the register are their bits. -/
theorem foldl_crcOctet (reg : Half) (os : List Byte) :
    os.foldl crcOctet reg = (os.flatMap octetBits).foldl crcBit reg := by
  rw [List.foldl_flatMap]
  rfl

/-- Settles O48: the register after the FCS depends injectively on the FCS added to the register before it, and only the
complement of that register leads to the sentinel. -/
theorem residueIsSentinelIffFcsMatches : Obligations.ResidueIsSentinelIffFcsMatches := by
  intro p f
  have hresidue : residue (p ++ fcsOctets f) = crcZero^[16] (p.foldl crcOctet 0xFFFF ^^^ f) ^^^ 0xFFFF := by
    have hshift : f >>> 16 = 0 := by
      apply BitVec.eq_of_getLsbD_eq
      simp
    rw [residue, crc16, List.foldl_append, foldl_crcOctet _ (fcsOctets f), octetBits_fcsOctets, ← foldl_crcBit_xor,
      hshift]
    simp
  have hsentinel : (0x0F47 : Half) = crcZero^[16] 0xFFFF ^^^ 0xFFFF := by decide +kernel
  rw [hresidue, hsentinel, BitVec.xor_left_inj, (crcZero_injective.iterate 16).eq_iff, crc16]
  exact xor_eq_iff_right_eq _ f _

/-! ## The accumulator -/

theorem reverse_xor (a b : Half) : (a ^^^ b).reverse = a.reverse ^^^ b.reverse := by
  apply BitVec.eq_of_getLsbD_eq
  intro k hk
  simp only [BitVec.getLsbD_reverse, BitVec.getLsbD_xor, BitVec.getMsbD_xor]

theorem reverse_shiftLeft_one (a : Half) : (a <<< 1).reverse = a.reverse >>> 1 := by
  apply BitVec.eq_of_getLsbD_eq
  intro k hk
  simp only [BitVec.getLsbD_reverse, BitVec.getLsbD_ushiftRight, BitVec.getMsbD_shiftLeft, Nat.add_comm]

/-- The accumulator is the CRC register read from the other end: one bit (R161). -/
theorem accBit_reverse (acc : Half) (b : Bool) : (accBit acc b).reverse = crcBit acc.reverse b := by
  have hpoly : (0x1021 : Half).reverse = 0x8408 := by decide
  have hend : acc.reverse.getLsbD 0 = acc.getLsbD 15 := by
    rw [BitVec.getLsbD_reverse, BitVec.getMsbD_eq_getLsbD]
    rfl
  unfold accBit crcBit
  rw [hend]
  split
  · rw [reverse_xor, reverse_shiftLeft_one, hpoly]
  · exact reverse_shiftLeft_one acc

/-- A reversed octet from its top bit down is the octet from its lowest bit up. -/
theorem reversed_octet_bits (o : Byte) : (List.range 8).map (fun k => o.reverse.getLsbD (7 - k)) = octetBits o := by
  refine List.map_congr_left fun k hk => ?_
  have hlt := List.mem_range.mp hk
  rw [BitVec.getLsbD_reverse, BitVec.getMsbD_eq_getLsbD, show 8 - 1 - (7 - k) = k by omega]
  simp [show 7 - k < 8 by omega]

theorem foldl_accBit_reverse (bs : List Bool) (acc : Half) :
    (bs.foldl accBit acc).reverse = bs.foldl crcBit acc.reverse := by
  induction bs generalizing acc with
  | nil => rfl
  | cons b bs ih => rw [List.foldl_cons, List.foldl_cons, ih, accBit_reverse]

theorem foldl_accOctet_reverse (os : List Byte) (acc : Half) :
    (os.foldl accOctet acc).reverse = os.foldl crcOctet acc.reverse := by
  induction os generalizing acc with
  | nil => rfl
  | cons o os ih =>
    have hoctet : (accOctet acc o).reverse = crcOctet acc.reverse o := by
      unfold accOctet crcOctet
      rw [reversed_octet_bits, foldl_accBit_reverse]
    rw [List.foldl_cons, List.foldl_cons, ih, hoctet]

/-- What R161 takes from the 32-bit accumulator is its low half complemented and read from the other end. -/
theorem accumulator_read (acc : Half) :
    ((~~~(acc.setWidth 32 : Word) <<< 16).reverse).setWidth 16 = acc.reverse ^^^ 0xFFFF := by
  have hones : (0xFFFF : Half) = BitVec.allOnes 16 := rfl
  apply BitVec.eq_of_getLsbD_eq
  intro k hk
  have hindex : 32 - 1 - k - 16 = 15 - k := by omega
  rw [hones, BitVec.getLsbD_setWidth, BitVec.getLsbD_reverse, BitVec.getMsbD_eq_getLsbD, BitVec.getLsbD_shiftLeft,
    hindex, BitVec.getLsbD_not, BitVec.getLsbD_setWidth, BitVec.getLsbD_xor, BitVec.getLsbD_reverse,
    BitVec.getMsbD_eq_getLsbD, BitVec.getLsbD_allOnes]
  simp [hk, show k < 32 by omega, show 32 - 1 - k < 32 by omega, show ¬ 32 - 1 - k < 16 by omega,
    show 15 - k < 32 by omega]

/-- Settles O49: the accumulator is the CRC register read from the other end, octet by octet. -/
theorem accumulatorCrcAgrees : Obligations.AccumulatorCrcAgrees := by
  intro os
  have hstart : (0xFFFF : Half).reverse = 0xFFFF := by decide
  show ((~~~((os.foldl accOctet 0xFFFF).setWidth 32 : Word) <<< 16).reverse).setWidth 16 = crc16 os
  rw [accumulator_read, foldl_accOctet_reverse, hstart]
  rfl

/-! ## FRAME_PARSE_FCS and FRAME_ADD_FCS -/

/-- The last two octets of a frame as an FCS, low octet first (R72, R164). -/
theorem receivedFcs_append (pre : List Byte) (lo hi : Byte) : receivedFcs (pre ++ [lo, hi]) = hi ++ lo := by
  simp [receivedFcs]

/-- FRAME_PARSE_FCS on a frame of at least two octets (R188). -/
theorem exec_frameParseFcs {s : State} {h : Nat} {f : Handle} (hs : Ready s) (hf : HostFrame s h f)
    (hlen : 2 ≤ (s.octets f).length) :
    exec (.frameParseFcs h) s = .next ((s.parseFcs f).respond .ok (Word.ofBits (residue (s.octets f)))
      (Word.ofBits (receivedFcs (s.octets f)))) := by
  rw [exec_of_hostFrame rfl hs hf, if_neg (Nat.not_lt.mpr hlen)]
  simp only [Reply.finish, State.parseFcs_eq, State.setSlot_slots, slots_set_self]

/-- Settles O43. -/
theorem frameParseFcsRule : Obligations.FrameParseFcsRule := by
  refine ⟨encodes_of_handle (by decide) (fun _ => rfl) (fun _ => rfl), fun _ => commonChecks_of_gate rfl,
    handleChecked_of_onFrame (fun _ => rfl), fun s h f hs hf => ⟨fun hlen => ?_, fun pre lo hi hos => ?_⟩⟩
  · exact exec_of_raise (c := .badLength) rfl hs hf (if_pos hlen)
  · have hfcs : receivedFcs (s.octets f) = BitVec.ofNat 16 (256 * hi.toNat + lo.toNat) := by
      rw [hos, receivedFcs_append]
      exact append_eq_ofNat hi lo
    have hvalue : (BitVec.ofNat 16 (256 * hi.toNat + lo.toNat)).toNat = 256 * hi.toNat + lo.toNat := by
      rw [BitVec.toNat_ofNat]
      omega
    rw [exec_frameParseFcs hs hf (by simp [hos]), State.parseFcs_eq, hfcs, hos, ofBits_eq_ofNat, ofBits_eq_ofNat,
      hvalue]
    rfl

/-- An FCS's octets as numbers, low octet first (R72). -/
theorem fcsOctets_eq (v : Half) : fcsOctets v = [BitVec.ofNat 8 (v.toNat % 256), BitVec.ofNat 8 (v.toNat / 256)] := by
  have := v.isLt
  unfold fcsOctets
  congr 1
  · apply BitVec.eq_of_toNat_eq
    simp
  · congr 1
    apply BitVec.eq_of_toNat_eq
    simp [Nat.shiftRight_eq_div_pow]

/-- With the chunks for two more octets, AddFcs appends the FCS and marks the frame (R165). -/
theorem addFcs_of_room {s : State} {f : Handle}
    (hroom : chunks ((s.octets f).length + 2) ≤ s.freeChunks + chunks (s.octets f).length) :
    s.addFcs f = some { s with
      slots := s.slots.set f { s.slots[f] with
        octets := s.octets f ++ fcsOctets (crc16 (s.octets f))
        fcs := crc16 (s.octets f)
        crc := okSentinel
        complete := true }
      freeChunks := s.freeChunks - (chunks ((s.octets f).length + 2) - chunks (s.octets f).length) } := by
  cases ha : s.addFcs f with
  | none =>
    have := addFcs_eq_none.mp ha
    omega
  | some t => exact congrArg some (addFcs_eq_some ha).2

/-- Settles O44. -/
theorem frameAddFcsRule : Obligations.FrameAddFcsRule := by
  refine ⟨encodes_of_handle (by decide) (fun _ => rfl) (fun _ => rfl), fun _ => commonChecks_of_gate rfl,
    handleChecked_of_onFrame (fun _ => rfl), fun s h f hs hf => ⟨fun hfew => ?_, fun hroom => ?_⟩⟩
  · have hnone : s.addFcs f = none := addFcs_eq_none.mpr (by omega)
    exact exec_of_raise (c := .poolExhausted) rfl hs hf (by simp only [hnone])
  · have hlen : (s.octets f ++ fcsOctets (crc16 (s.octets f))).length = (s.octets f).length + 2 := List.length_append
    rw [exec_of_hostFrame rfl hs hf, addFcs_of_room hroom, ← fcsOctets_eq]
    simp only [Reply.finish, State.octets, slots_set_self, ofBits_eq_ofNat]
    simp only [State.octets] at hlen
    rw [hlen]
    rfl

/-- An FCS appended is received back (R72, R164, R165). -/
theorem receivedFcs_fcsOctets (os : List Byte) (v : Half) : receivedFcs (os ++ fcsOctets v) = v := by
  rw [fcsOctets, receivedFcs_append]
  apply BitVec.eq_of_getLsbD_eq
  intro k hk
  rw [BitVec.getLsbD_append, BitVec.getLsbD_extractLsb, BitVec.getLsbD_extractLsb]
  grind

/-- FRAME_ADD_FCS that completes has appended the FCS of the octets to them (R189). -/
theorem frameAddFcs_completed {s t : State} {h : Nat} {f : Handle} (hs : Ready s) (hf : HostFrame s h f)
    (hexec : exec (.frameAddFcs h) s = .next t) (hok : t.status = 0x00) :
    Ready t ∧ HostFrame t h f ∧ t.octets f = s.octets f ++ fcsOctets (crc16 (s.octets f)) := by
  rw [exec_of_hostFrame rfl hs hf] at hexec
  obtain rfl := Host.Outcome.next.inj hexec
  cases ha : s.addFcs f with
  | none =>
    simp only [ha, Reply.finish, State.raised_status] at hok
    exact absurd hok (by decide)
  | some u =>
    obtain ⟨-, rfl⟩ := addFcs_eq_some ha
    have hslot := slots_set_self s.slots f { s.slots[f] with
      octets := s.octets f ++ fcsOctets (crc16 (s.octets f))
      fcs := crc16 (s.octets f)
      crc := okSentinel
      complete := true }
    exact ⟨hs, ⟨hf.1, (congrArg Slot.owner hslot).trans hf.2⟩, congrArg Slot.octets hslot⟩

/-- Settles O47: the residue of the octets with their FCS is the sentinel, which FRAME_OK finds in the slot. -/
theorem addThenParseIsOk : Obligations.AddThenParseIsOk := by
  intro s t h f hs hf hexec hok
  obtain ⟨ht, hft, hos⟩ := frameAddFcs_completed hs hf hexec hok
  have hres : residue (t.octets f) = 0x0F47 := by
    rw [hos]
    exact (residueIsSentinelIffFcsMatches _ _).mpr rfl
  have hslot : (t.parseFcs f).slots[f].crc = 0x0F47 := by
    rw [State.parseFcs_eq, State.setSlot_slots, slots_set_self]
    exact hres
  refine ⟨_, exec_frameParseFcs ht hft (by simp [hos, fcsOctets]), ?_, ?_, ?_⟩
  · rw [State.respond_value0, hres]
    rfl
  · rw [State.respond_value1, hos, receivedFcs_fcsOctets, ofBits_eq_ofNat]
  · have hhost : (t.parseFcs f).slots[f].owner = .host := by
      rw [State.parseFcs_eq, State.setSlot_slots, slots_set_self]
      exact hft.2
    have hu : Ready ((t.parseFcs f).respond .ok (Word.ofBits (residue (t.octets f)))
      (Word.ofBits (receivedFcs (t.octets f)))) := ht
    have hframeOk : (t.parseFcs f).frameOk f = true := decide_eq_true hslot
    exact exec_of_reader (f := f) rfl hu ⟨hft.1, hhost⟩
      (congrArg (fun b => Reply.respond .ok (Word.ofBool b) 0 _) hframeOk)

end Sys2Proof.Proofs
end

section
/-!
SUPPORT. One line bit through the destuffer: abort, stuffed zero, hunting, data, flag (spec/42_hdlc.md R175-R178).
-/

namespace Sys2Proof.Proofs

open Sys2Proof.Machine Sys2Proof.Safety

section
variable {s : State} {i : InstId}

/-! ## Abort, stuffed zero, hunting -/

/-- A seventh 1 aborts (R175). -/
theorem destuffBit_seventh (hones : 6 ≤ s.dx[i].ones) :
    s.destuffBit i true = (none, (s.setDx i { s.dx[i] with ones := 7 }).abort i) := by
  have hmin : min (s.dx[i].ones + 1) 7 = 7 := by omega
  simp only [State.destuffBit, if_true, hmin]

theorem abort_of_no_rx (hrx : s.dx[i].rx = none) :
    s.abort i = s.setDx i { s.dx[i] with olen := none, rx := none } := by
  rw [State.abort, hrx]

/-- Abort releases the frame in reception (R178). -/
theorem abort_of_rx {h : Handle} (hrx : s.dx[i].rx = some h) :
    s.abort i = (s.poolRelease h).setDx i { s.dx[i] with olen := none, rx := none } := by
  rw [State.abort, hrx]
  dsimp only
  rw [State.poolRelease_dx]

/-- A 0 after five 1s only resets the count (R175). -/
theorem destuffBit_stuffed (hones : s.dx[i].ones = 5) :
    s.destuffBit i false = (none, s.setDx i { s.dx[i] with ones := 0 }) := by
  simp only [State.destuffBit, hones]
  rfl

/-- While hunting a data bit only counts (R176). -/
theorem destuffBit_hunting {b : Bool} (holen : s.dx[i].olen = none) (hb : IsDataBit s.dx[i].ones b) :
    s.destuffBit i b = (none, s.setDx i { s.dx[i] with ones := if b then s.dx[i].ones + 1 else 0 }) := by
  rw [destuffBit_of_isDataBit hb, State.dataBit, State.setDx_dx, dx_set_self]
  simp only [holen]

/-! ## Data bits -/

/-- Before the eighth bit of an octet only the destuffer changes (R176). -/
theorem destuffBit_partial {b : Bool} {n : Nat} (holen : s.dx[i].olen = some n) (hn : n < 7)
    (hb : IsDataBit s.dx[i].ones b) : s.destuffBit i b = (none, s.setDx i (tookBit s.dx[i] b (n + 1))) := by
  rw [destuffBit_of_isDataBit hb, State.dataBit, State.setDx_dx, dx_set_self]
  simp [holen, show n ≠ 7 by omega, State.setDx, tookBit, -Fin.getElem_fin]

/-- The eighth bit appends the octet to the frame in reception (R176). -/
theorem destuffBit_eighth_rx {b : Bool} {h : Handle} (h7 : s.dx[i].olen = some 7) (hb : IsDataBit s.dx[i].ones b)
    (hrx : s.dx[i].rx = some h) (hroom : (s.octets h).length % Config.chunkSize = 0 → s.freeChunks ≠ 0) :
    s.destuffBit i b = (none, { s with
      dx := s.dx.set i (tookBit s.dx[i] b 0)
      slots := s.slots.set h { s.slots[h] with octets := s.octets h ++ [(tookBit s.dx[i] b 0).oacc] }
      freeChunks := s.freeChunks - (if (s.octets h).length % Config.chunkSize = 0 then 1 else 0) }) := by
  have hrx' : (s.setDx i (tookBit s.dx[i] b 0)).dx[i].rx = some h := by
    rw [State.setDx_dx, dx_set_self]
    exact hrx
  rw [destuffBit_of_eighth h7 hb, rxOctet_of_rx _ hrx',
    storeRxOctet_of_room (s := s.setDx i (tookBit s.dx[i] b 0)) hroom]
  rfl

/-- A frame's first octet goes to the slot just taken for it (R176). -/
theorem storeRxOctet_of_taken {u : State} {h : Handle} {o : Byte}
    (hslots : u.slots = s.slots.set h { s.slots[h] with owner := .rx i }) (hchunks : u.freeChunks = s.freeChunks)
    (hroom : (s.octets h).length % Config.chunkSize = 0 → s.freeChunks ≠ 0) :
    u.storeRxOctet i h o = { u with
      slots := s.slots.set h { s.slots[h] with owner := .rx i, octets := s.octets h ++ [o] }
      freeChunks := s.freeChunks - (if (s.octets h).length % Config.chunkSize = 0 then 1 else 0) } := by
  have hos : u.octets h = s.octets h := by
    show u.slots[h].octets = s.slots[h].octets
    rw [hslots, slots_set_self]
  rw [storeRxOctet_of_room (by rw [hos, hchunks]; exact hroom), hos, hslots, hchunks, slots_set_self, Vector.set_set]

/-- The eighth bit of a frame's first octet takes the slot on top of the free list for it (R155, R176). -/
theorem destuffBit_eighth_slot {b : Bool} {h : Handle} {rest : List Handle} (h7 : s.dx[i].olen = some 7)
    (hb : IsDataBit s.dx[i].ones b) (hrx : s.dx[i].rx = none) (hfree : s.free = h :: rest)
    (hroom : (s.octets h).length % Config.chunkSize = 0 → s.freeChunks ≠ 0) :
    s.destuffBit i b = (none, { s with
      dx := s.dx.set i { tookBit s.dx[i] b 0 with rx := some h }
      free := rest
      slots := s.slots.set h { s.slots[h] with owner := .rx i, octets := s.octets h ++ [(tookBit s.dx[i] b 0).oacc] }
      freeChunks := s.freeChunks - (if (s.octets h).length % Config.chunkSize = 0 then 1 else 0) }) := by
  have hrx' : (s.setDx i (tookBit s.dx[i] b 0)).dx[i].rx = none := by
    rw [State.setDx_dx, dx_set_self]
    exact hrx
  rw [destuffBit_of_eighth h7 hb, rxOctet_of_slot _ hrx' hfree, storeRxOctet_of_taken (s := s) ?_ ?_ hroom]
  · simp only [State.setDx, State.setOwner, State.setSlot, dx_set_self, Vector.set_set]
  · rfl
  · rfl

end

/-- Settles O32. -/
theorem destufferBitRules : Obligations.DestufferBitRules := by
  intro s i
  refine ⟨fun hones => ?_, fun hones => destuffBit_stuffed hones, fun holen hones => ?_, fun holen hones => ?_,
    fun b hb => ⟨fun n holen hn => destuffBit_partial holen hn hb,
      fun h h7 hrx hroom => destuffBit_eighth_rx h7 hb hrx hroom,
      fun h rest h7 hrx hfree hroom => destuffBit_eighth_slot h7 hb hrx hfree hroom⟩⟩
  · refine ⟨_, destuffBit_seventh hones, ?_⟩
    have hself : (s.setDx i { s.dx[i] with ones := 7 }).dx[i] = { s.dx[i] with ones := 7 } := dx_set_self _ _ _
    cases hrx : s.dx[i].rx with
    | none =>
      rw [abort_of_no_rx (by rw [hself]; exact hrx), hself]
      refine ⟨dx_set_self _ _ _, fun j hj => ?_, rfl, fun _ => ⟨rfl, rfl, rfl⟩, fun h hh => (nomatch hh)⟩
      simp only [State.setDx_dx, dx_set_ne _ _ _ _ hj]
    | some h =>
      rw [abort_of_rx (by rw [hself]; exact hrx), hself, poolRelease_eq]
      refine ⟨dx_set_self _ _ _, fun j hj => ?_, rfl, fun hh => (nomatch hh), fun g hg => ?_⟩
      · simp only [State.setDx_dx, dx_set_ne _ _ _ _ hj]
      · cases hg
        exact ⟨rfl, rfl, rfl⟩
  · exact destuffBit_hunting holen (.inl ⟨rfl, hones⟩)
  · by_cases h5 : s.dx[i].ones = 5
    · exact destuffBit_stuffed h5
    · exact destuffBit_hunting holen (.inr ⟨rfl, h5, hones⟩)

/-! ## Flags -/

/-- The destuffer at the start of a frame (R177). -/
def atFrameStart : Destuffer := { ones := 0, olen := some 0, oacc := 0, rx := none }

section
variable {s : State} {i : InstId}

/-- A flag deals with the frame in reception and leaves the destuffer at the start of a frame (R177). -/
theorem destuffBit_flag (hones : s.dx[i].ones = 6) :
    s.destuffBit i false = (((s.setDx i { s.dx[i] with ones := 0 }).closeRx i).1,
      ((s.setDx i { s.dx[i] with ones := 0 }).closeRx i).2.setDx i atFrameStart) := by
  simp only [State.destuffBit, hones, Bool.false_eq_true, if_false, if_true, State.closeFrame, closeRx_dx,
    State.setDx_dx, dx_set_self, atFrameStart]

theorem closeRx_of_no_rx (hrx : s.dx[i].rx = none) : s.closeRx i = (none, s) := by
  rw [State.closeRx, hrx]

/-- A frame that is octet-aligned, long enough and passes its check is handed on (R177). -/
theorem closeRx_of_good {h : Handle} (hrx : s.dx[i].rx = some h) (h7 : s.dx[i].olen = some 7)
    (hlen : 3 ≤ (s.octets h).length) (hcrc : crc16 (s.octets h) = 0x0F47) :
    s.closeRx i = (some h, s.setSlot h { s.slots[h] with
      fcs := receivedFcs (s.octets h), crc := 0x0F47, complete := true, metaByte := 0x10 }) := by
  have hok : (s.parseFcs h).frameOk h = true := by
    simpa [State.frameOk, State.parseFcs_eq, residue, okSentinel] using hcrc
  have hmeta : rxMeta = 0x10 := by decide
  rw [State.closeRx, hrx]
  dsimp only
  rw [if_pos ⟨h7, hlen⟩, if_pos hok, State.parseFcs_eq]
  simp [State.setSlot, residue, hcrc, hmeta]

/-- A frame that fails one of the three conditions is released (R177). -/
theorem closeRx_of_bad {h : Handle} (hrx : s.dx[i].rx = some h)
    (hbad : ¬ (s.dx[i].olen = some 7 ∧ 3 ≤ (s.octets h).length ∧ crc16 (s.octets h) = 0x0F47)) :
    s.closeRx i = (none, s.poolRelease h) := by
  rw [State.closeRx, hrx]
  dsimp only
  split
  · next hlen =>
    have hcrc : ¬ (s.parseFcs h).frameOk h = true := fun hok => by
      have hok : residue (s.octets h) = okSentinel := by
        simpa [State.frameOk, State.parseFcs_eq, -Fin.getElem_fin] using hok
      exact hbad ⟨hlen.1, hlen.2, hok⟩
    rw [if_neg hcrc, State.parseFcs_eq, poolRelease_eq, poolRelease_eq]
    simp [State.setSlot, State.octets]
  · rfl

end

/-- Settles O33: counting the flag's last bit does not matter to the frame. -/
theorem flagClosesFrame : Obligations.FlagClosesFrame := by
  intro s i hones
  have hself : (s.setDx i { s.dx[i] with ones := 0 }).dx[i] = { s.dx[i] with ones := 0 } := dx_set_self _ _ _
  refine ⟨_, _, destuffBit_flag hones, ?_, fun hrx => ?_, fun h hrx => ⟨fun hgood => ?_, fun hbad => ?_⟩⟩
  · rw [State.setDx_dx, closeRx_dx, State.setDx_dx, Vector.set_set]
    rfl
  · rw [closeRx_of_no_rx (by rw [hself]; exact hrx)]
    exact ⟨rfl, rfl, rfl, rfl⟩
  · obtain ⟨h7, hlen, hcrc⟩ := hgood
    rw [closeRx_of_good (s := s.setDx i { s.dx[i] with ones := 0 }) (h := h) (by rw [hself]; exact hrx)
      (by rw [hself]; exact h7) hlen hcrc]
    exact ⟨rfl, rfl, rfl, rfl⟩
  · rw [closeRx_of_bad (s := s.setDx i { s.dx[i] with ones := 0 }) (h := h) (by rw [hself]; exact hrx)
      (by rw [hself]; exact hbad)]
    simp [State.octets]

end Sys2Proof.Proofs
end

section
/-!
SUPPORT. Bit stuffing: the packer as a bit stream, the shape and length of a stuffed payload, and HDLC_STUFF
(spec/42_hdlc.md R166-R168, R194).
-/

namespace Sys2Proof.Proofs

open Sys2Proof.Machine Sys2Proof.Safety

/-! ## Bit streams -/

theorem length_octetBits (o : Byte) : (octetBits o).length = 8 := by simp [octetBits]

theorem bitStream_append (os ps : List Byte) : bitStream (os ++ ps) = bitStream os ++ bitStream ps :=
  List.flatMap_append

theorem bitStream_singleton (o : Byte) : bitStream [o] = octetBits o := List.flatMap_singleton octetBits o

theorem length_bitStream (os : List Byte) : (bitStream os).length = 8 * os.length := by
  induction os with
  | nil => rfl
  | cons o os ih =>
    rw [← List.singleton_append, bitStream_append, bitStream_singleton, List.length_append, length_octetBits, ih]
    simp
    omega

/-! ## The packer -/

/-- The bits put into a packer so far, in order. -/
def packedBits (p : Packer) : List Bool := bitStream p.out ++ (List.range p.n).map p.acc.getLsbD

/-- A packer's partial octet holds fewer than 8 bits, and 0 above them. -/
def PackerSound (p : Packer) : Prop := p.n < 8 ∧ ∀ j, p.n ≤ j → p.acc.getLsbD j = false

/-- A packer's partial octet with one bit more (R166). -/
def packed (p : Packer) (b : Bool) : Byte := p.acc ||| ((if b then 1 else 0) <<< p.n)

theorem put_eq (p : Packer) (b : Bool) :
    p.put b = if p.n + 1 = 8 then { out := p.out ++ [packed p b], acc := 0, n := 0 }
      else { p with acc := packed p b, n := p.n + 1 } := rfl

theorem packed_getLsbD {p : Packer} (hp : PackerSound p) (b : Bool) (j : Nat) :
    (packed p b).getLsbD j = if j = p.n then b else p.acc.getLsbD j := by
  obtain ⟨hn, hclear⟩ := hp
  have hbit : (BitVec.ofNat 8 ((if b then 1 else 0) <<< p.n)).getLsbD j = (decide (j = p.n) && b) := by
    cases b
    · simp
    · rw [if_pos rfl, Nat.one_shiftLeft, BitVec.getLsbD_ofNat, Nat.testBit_two_pow]
      grind
  rw [packed, BitVec.getLsbD_or]
  refine (congrArg (p.acc.getLsbD j || ·) hbit).trans ?_
  split
  · next hj => simp [hj, hclear p.n le_rfl]
  · next hj => simp [hj]

/-- The bits of the partial octet with one bit more. -/
theorem map_packed {p : Packer} (hp : PackerSound p) (b : Bool) :
    (List.range (p.n + 1)).map (packed p b).getLsbD = (List.range p.n).map p.acc.getLsbD ++ [b] := by
  rw [List.range_succ, List.map_append, List.map_singleton, packed_getLsbD hp, if_pos rfl]
  congr 1
  refine List.map_congr_left fun k hk => ?_
  rw [packed_getLsbD hp, if_neg (List.mem_range.mp hk).ne]

/-- A bit put into a packer comes after the bits put before it (R166). -/
theorem packedBits_put {p : Packer} (hp : PackerSound p) (b : Bool) :
    packedBits (p.put b) = packedBits p ++ [b] ∧ PackerSound (p.put b) ∧ (p.put b).n = (p.n + 1) % 8 := by
  have hbits := map_packed hp b
  obtain ⟨hn, hclear⟩ := hp
  rw [put_eq]
  split
  · next h8 =>
    rw [h8] at hbits
    refine ⟨?_, ⟨Nat.zero_lt_succ 7, by simp⟩, by rw [h8]⟩
    show bitStream (p.out ++ [_]) ++ [] = _
    rw [List.append_nil, bitStream_append, bitStream_singleton, packedBits, List.append_assoc, ← hbits]
    rfl
  · next h8 =>
    have hlt : p.n + 1 < 8 := by omega
    refine ⟨?_, ⟨hlt, fun j hj => ?_⟩, (Nat.mod_eq_of_lt hlt).symm⟩
    · show bitStream p.out ++ _ = _
      rw [hbits, packedBits, List.append_assoc]
    · have hne : j ≠ p.n := by
        have : p.n + 1 ≤ j := hj
        omega
      rw [packed_getLsbD ⟨hn, hclear⟩, if_neg hne]
      exact hclear j (Nat.le_of_succ_le hj)

theorem packedBits_putAll (bs : List Bool) {p : Packer} (hp : PackerSound p) :
    packedBits (p.putAll bs) = packedBits p ++ bs ∧ PackerSound (p.putAll bs) ∧
      (p.putAll bs).n = (p.n + bs.length) % 8 := by
  induction bs generalizing p with
  | nil => exact ⟨(List.append_nil _).symm, hp, (Nat.mod_eq_of_lt hp.1).symm⟩
  | cons b bs ih =>
    obtain ⟨hbits, hsound, hn⟩ := packedBits_put hp b
    obtain ⟨hbits', hsound', hn'⟩ := ih hsound
    refine ⟨?_, hsound', ?_⟩
    · rw [Packer.putAll, List.foldl_cons, ← Packer.putAll, hbits', hbits, List.append_assoc, List.singleton_append]
    · rw [Packer.putAll, List.foldl_cons, ← Packer.putAll, hn', hn, List.length_cons]
      omega

/-- Finished octets stay. -/
theorem putAll_out (bs : List Bool) (p : Packer) : p.out <+: (p.putAll bs).out := by
  induction bs generalizing p with
  | nil => exact List.prefix_refl _
  | cons b bs ih =>
    refine List.IsPrefix.trans ?_ (ih (p.put b))
    rw [put_eq]
    split
    · exact List.prefix_append _ _
    · exact List.prefix_refl _

/-! ## The stuffed stream -/

/-- The pad's length for a payload that stuffs to `len` bits (R166, R167). -/
def padLength (len : Nat) : Nat := (8 - len % 8) % 8

/-- The packer of a stuffed payload with both flags, before the pad (R166). -/
def flaggedPacker (p : List Byte) : Packer :=
  (Packer.putAll { out := [flagOctet], acc := 0, n := 0 } (stuffBits 0 (bitStream p))).putAll (octetBits flagOctet)

theorem stuff_eq (p : List Byte) :
    stuff p = ((flaggedPacker p).putAll ((octetBits flagOctet).take ((8 - (flaggedPacker p).n) % 8))).out := rfl

theorem packedBits_flaggedPacker (p : List Byte) :
    packedBits (flaggedPacker p) = octetBits flagOctet ++ stuffBits 0 (bitStream p) ++ octetBits flagOctet ∧
      PackerSound (flaggedPacker p) ∧ (flaggedPacker p).n = (stuffBits 0 (bitStream p)).length % 8 := by
  have hstart : PackerSound { out := [flagOctet], acc := 0, n := 0 } := ⟨by decide, by simp⟩
  obtain ⟨hbody, hsound, hn⟩ := packedBits_putAll (stuffBits 0 (bitStream p)) hstart
  obtain ⟨hflag, hsound', hn'⟩ := packedBits_putAll (octetBits flagOctet) hsound
  refine ⟨?_, hsound', ?_⟩
  · rw [flaggedPacker, hflag, hbody]
    simp [packedBits, bitStream_singleton]
  · rw [flaggedPacker, hn', hn, length_octetBits]
    dsimp only
    omega

/-- The stuffed stream is flag, stuffed payload, flag, pad (R166, R167). -/
theorem bitStream_stuff (p : List Byte) :
    bitStream (stuff p) = octetBits flagOctet ++ stuffBits 0 (bitStream p) ++ octetBits flagOctet ++
      (octetBits flagOctet).take (padLength (stuffBits 0 (bitStream p)).length) := by
  obtain ⟨hbits, hsound, hn⟩ := packedBits_flaggedPacker p
  obtain ⟨hpad, -, hend⟩ :=
    packedBits_putAll ((octetBits flagOctet).take (padLength (stuffBits 0 (bitStream p)).length)) hsound
  have hzero : ((flaggedPacker p).putAll
      ((octetBits flagOctet).take (padLength (stuffBits 0 (bitStream p)).length))).n = 0 := by
    rw [hend, List.length_take, length_octetBits, hn, padLength]
    omega
  rw [packedBits, hzero, List.range_zero, List.map_nil, List.append_nil, hbits] at hpad
  rw [stuff_eq, hn]
  exact hpad

/-- Stuffing takes no bit out. -/
theorem length_le_stuffBits (bs : List Bool) (ones : Nat) : bs.length ≤ (stuffBits ones bs).length := by
  induction bs generalizing ones with
  | nil => exact Nat.zero_le _
  | cons b bs ih =>
    cases b with
    | false => simpa [stuffBits] using ih 0
    | true =>
      have h0 := ih 0
      have h1 := ih (ones + 1)
      unfold stuffBits
      split <;> simp only [List.length_cons] <;> omega

/-- Settles O50: the length in bits is a multiple of 8. -/
theorem stuffedLength : Obligations.StuffedLength := by
  intro p
  have hle := length_le_stuffBits (bitStream p) 0
  have hlen := congrArg List.length (bitStream_stuff p)
  rw [length_bitStream] at hle
  refine ⟨?_, hle, ?_⟩
  · simp only [List.length_append, List.length_take, length_octetBits, length_bitStream, padLength] at hlen
    unfold stuffedZeros
    omega
  · obtain ⟨os, hos⟩ := ((putAll_out (stuffBits 0 (bitStream p)) { out := [flagOctet], acc := 0, n := 0 }).trans
      (putAll_out (octetBits flagOctet) _)).trans (putAll_out _ (flaggedPacker p))
    rw [stuff_eq, ← hos]
    rfl

/-! ## The body -/

/-- With `ones` 1s before it, a stuffed body starts with too few 1s to make six, and holds no six in a row. -/
theorem stuffBits_no_six (bs : List Bool) {ones : Nat} (hones : ones ≤ 4) :
    ¬ List.replicate (6 - ones) true <+: stuffBits ones bs ∧ ¬ List.replicate 6 true <:+: stuffBits ones bs := by
  induction bs generalizing ones with
  | nil =>
    obtain ⟨k, hk⟩ : ∃ k, 6 - ones = k + 1 := ⟨5 - ones, by omega⟩
    simp [stuffBits, hk, List.replicate_succ]
  | cons b bs ih =>
    obtain ⟨k, hk⟩ : ∃ k, 6 - ones = k + 1 := ⟨5 - ones, by omega⟩
    obtain ⟨-, hafter⟩ := ih (ones := 0) (by omega)
    cases b with
    | false =>
      simp only [stuffBits, hk, List.replicate_succ, List.infix_cons_iff, List.cons_prefix_cons]
      simpa using hafter
    | true =>
      unfold stuffBits
      split
      · next h5 =>
        obtain rfl : ones = 4 := by omega
        simpa [List.replicate_succ, List.infix_cons_iff, List.cons_prefix_cons] using hafter
      · next h5 =>
        obtain ⟨hstart, hinfix⟩ := ih (ones := ones + 1) (by omega)
        have hk' : 6 - (ones + 1) = k := by omega
        rw [hk'] at hstart
        have hfive : ¬ List.replicate 5 true <+: stuffBits (ones + 1) bs := fun h =>
          hstart (List.IsPrefix.trans ⟨List.replicate (5 - k) true, by
            rw [List.replicate_append_replicate]; congr 1; omega⟩ h)
        rw [hk]
        refine ⟨fun h => hstart (List.cons_prefix_cons.mp h).2, fun h => ?_⟩
        rcases List.infix_cons_iff.mp h with h | h
        · exact hfive (List.cons_prefix_cons.mp h).2
        · exact hinfix h

/-- Unstuffing a stuffed body gives the payload's bits back (R175). -/
theorem unstuffBits_stuffBits (bs : List Bool) (ones : Nat) : unstuffBits ones (stuffBits ones bs) = bs := by
  induction bs generalizing ones with
  | nil => rfl
  | cons b bs ih =>
    cases b with
    | false => simp only [stuffBits, unstuffBits, ih]
    | true =>
      unfold stuffBits
      split
      · next h5 => rw [unstuffBits, if_pos h5, ih]
      · next h5 =>
        have hrest := ih (ones + 1)
        cases hs : stuffBits (ones + 1) bs with
        | nil =>
          rw [hs] at hrest
          rw [← hrest]
          rfl
        | cons c cs =>
          rw [hs] at hrest
          rw [unstuffBits, if_neg h5, hrest]

/-- Settles O51. -/
theorem stuffedStreamShape : Obligations.StuffedStreamShape := by
  intro p
  refine ⟨stuffBits 0 (bitStream p), padLength (stuffBits 0 (bitStream p)).length, Nat.mod_lt _ (by decide),
    bitStream_stuff p, (stuffBits_no_six _ (by decide)).2, unstuffBits_stuffBits _ 0⟩

/-! ## HDLC_STUFF -/

/-- With a slot and the chunks for it, the stuffed octets go to a clear slot of the pool (R194). -/
theorem stuffRule_of_room {s : State} {f h2 : Handle} {rest : List Handle} (hfree : s.free = h2 :: rest)
    (hclear : s.slots[h2] = Slot.reset) (hroom : chunks (stuff (s.octets f)).length ≤ s.freeChunks) :
    stuffRule f s = .respond .ok (Word.ofNat h2.val) (Word.ofNat (stuff (s.octets f)).length) { s with
      free := rest
      slots := s.slots.set h2
        { Slot.reset with owner := .host, octets := stuff (s.octets f), metaByte := s.slots[f].metaByte }
      freeChunks := s.freeChunks - chunks (stuff (s.octets f)).length } := by
  unfold stuffRule
  dsimp only
  rw [if_neg (Nat.not_lt.mpr hroom), State.poolAcquire, hfree]
  simp only [State.setOwner, State.setSlot, hclear, slots_set_self, Vector.set_set]

theorem stuffRule_of_exhausted {s : State} {f : Handle}
    (hfew : s.free = [] ∨ s.freeChunks < chunks (stuff (s.octets f)).length) :
    stuffRule f s = .raised .poolExhausted := by
  unfold stuffRule
  dsimp only
  split
  · rfl
  · next hroom => rw [poolAcquire_eq_none.mpr (hfew.resolve_right hroom)]

/-- Settles O45: the slot on top of the free list is FREE and clear (R37), so it is not the named one. -/
theorem hdlcStuffRule : Obligations.HdlcStuffRule := by
  refine ⟨encodes_of_handle (by decide) (fun _ => rfl) (fun _ => rfl), fun _ => commonChecks_of_gate rfl,
    handleChecked_of_onFrame (fun _ => rfl), fun s h f hs hpool hf => ⟨fun hfew => ?_, fun h2 rest hfree hroom => ?_⟩⟩
  · exact exec_of_raise (c := .poolExhausted) rfl hs hf (stuffRule_of_exhausted hfew)
  · obtain ⟨⟨-, hmem⟩, -, hclear, -⟩ := hpool
    have hslot : s.slots[h2] = Slot.reset := hclear h2 ((hmem h2).mp (by simp [hfree]))
    refine ⟨?_, ?_⟩
    · rintro rfl
      have howner := hf.2
      rw [hslot] at howner
      cases howner
    · rw [exec_of_hostFrame rfl hs hf, stuffRule_of_room hfree hslot hroom]
      rfl

end Sys2Proof.Proofs
end

section
/-!
SUPPORT. A stuffed payload through the destuffer: the opening flag ends hunting, the body's octets are assembled into
one frame, the closing flag hands it on, the pad completes no octet (spec/42_hdlc.md R166, R175-R177, R179).
-/

namespace Sys2Proof.Proofs

open Sys2Proof.Machine Sys2Proof.Safety

/-! ## Bits in a row -/

theorem destuffBits_cons (s : State) (i : InstId) (b : Bool) (bs : List Bool) :
    s.destuffBits i (b :: bs) = ((s.destuffBit i b).1 :: ((s.destuffBit i b).2.destuffBits i bs).1,
      ((s.destuffBit i b).2.destuffBits i bs).2) := rfl

theorem destuffBits_append (s : State) (i : InstId) (bs cs : List Bool) :
    s.destuffBits i (bs ++ cs) = ((s.destuffBits i bs).1 ++ ((s.destuffBits i bs).2.destuffBits i cs).1,
      ((s.destuffBits i bs).2.destuffBits i cs).2) := by
  induction bs generalizing s with
  | nil => rfl
  | cons b bs ih => rw [List.cons_append, destuffBits_cons, ih, destuffBits_cons, List.cons_append]

/-- The bits lead from `s` to `t` and return no frame. -/
def FeedsSilently (i : InstId) (s : State) (bs : List Bool) (t : State) : Prop :=
  s.destuffBits i bs = (List.replicate bs.length none, t)

theorem FeedsSilently.nil (i : InstId) (s : State) : FeedsSilently i s [] s := rfl

theorem FeedsSilently.cons {i : InstId} {s t u : State} {b : Bool} {bs : List Bool} (h : s.destuffBit i b = (none, t))
    (ht : FeedsSilently i t bs u) : FeedsSilently i s (b :: bs) u := by
  unfold FeedsSilently at *
  rw [destuffBits_cons, h, ht]
  rfl

theorem FeedsSilently.append {i : InstId} {s t u : State} {bs cs : List Bool} (hs : FeedsSilently i s bs t)
    (ht : FeedsSilently i t cs u) : FeedsSilently i s (bs ++ cs) u := by
  unfold FeedsSilently at *
  rw [destuffBits_append, hs, ht, List.length_append, List.replicate_add]

/-! ## Octets from bits -/

/-- The partial octet with one bit more, filled from bit 7 downward (R176). -/
def shiftIn (acc : Byte) (b : Bool) : Byte := acc >>> 1 ||| (if b then 0x80 else 0)

theorem shiftIn_getLsbD (acc : Byte) (b : Bool) {j : Nat} (hj : j < 8) :
    (shiftIn acc b).getLsbD j = if j = 7 then b else acc.getLsbD (j + 1) := by
  have htop : ∀ k < 8, (128#8).getLsbD k = decide (k = 7) := by decide
  rw [shiftIn, BitVec.getLsbD_or, BitVec.getLsbD_ushiftRight, Nat.add_comm 1 j]
  by_cases h7 : j = 7
  · subst h7
    cases b <;> simp
  · cases b
    · simp [h7]
    · simp [h7, htop j hj]

/-- After the first n bits of an octet they stand at the top, above what was there before. -/
theorem foldl_shiftIn_getLsbD (acc o : Byte) (n : Nat) {j : Nat} (hj : j < 8) :
    (((List.range n).map o.getLsbD).foldl shiftIn acc).getLsbD j =
      if j + n < 8 then acc.getLsbD (j + n) else o.getLsbD (j + n - 8) := by
  induction n generalizing j with
  | zero => simp [hj]
  | succ n ih =>
    rw [List.range_succ, List.map_append, List.foldl_append, List.map_singleton, List.foldl_cons, List.foldl_nil,
      shiftIn_getLsbD _ _ hj]
    split
    · next h7 =>
      subst h7
      rw [if_neg (by omega), show 7 + (n + 1) - 8 = n by omega]
    · rw [ih (by omega), show j + 1 + n = j + (n + 1) by omega]

/-- An octet's eight bits, lowest first, make the octet, whatever was there before. -/
theorem foldl_shiftIn_octetBits (acc o : Byte) : (octetBits o).foldl shiftIn acc = o := by
  apply BitVec.eq_of_getLsbD_eq
  intro j hj
  rw [octetBits, foldl_shiftIn_getLsbD acc o 8 hj, if_neg (by omega), Nat.add_sub_cancel]

/-- A frame being assembled: its octets, and the partial octet with its number of bits (R33, R176). -/
structure Assembler where
  octets : List Byte
  count : Nat
  acc : Byte

/-- One data bit (R176). -/
def Assembler.take (a : Assembler) (b : Bool) : Assembler :=
  if a.count = 7 then { octets := a.octets ++ [shiftIn a.acc b], count := 0, acc := shiftIn a.acc b }
  else { a with count := a.count + 1, acc := shiftIn a.acc b }

/-- Data bits in order. -/
def Assembler.takeAll (a : Assembler) (bs : List Bool) : Assembler := bs.foldl Assembler.take a

namespace Assembler

variable {a : Assembler}

theorem take_of_partial (b : Bool) (h : a.count < 7) :
    a.take b = { a with count := a.count + 1, acc := shiftIn a.acc b } := if_neg h.ne

theorem take_of_eighth (b : Bool) (h : a.count = 7) :
    a.take b = { octets := a.octets ++ [shiftIn a.acc b], count := 0, acc := shiftIn a.acc b } := if_pos h

theorem take_count_le (b : Bool) (h : a.count ≤ 7) : (a.take b).count ≤ 7 := by
  unfold take
  split
  · exact Nat.zero_le 7
  · show a.count + 1 ≤ 7
    omega

theorem takeAll_cons (a : Assembler) (b : Bool) (bs : List Bool) : a.takeAll (b :: bs) = (a.take b).takeAll bs := rfl

theorem takeAll_append (a : Assembler) (bs cs : List Bool) : a.takeAll (bs ++ cs) = (a.takeAll bs).takeAll cs :=
  List.foldl_append

theorem length_le_takeAll (bs : List Bool) (a : Assembler) : a.octets.length ≤ (a.takeAll bs).octets.length := by
  induction bs generalizing a with
  | nil => exact le_rfl
  | cons b bs ih =>
    refine le_trans ?_ (ih (a.take b))
    unfold take
    split
    · simp
    · exact le_rfl

/-- Bits that complete no octet. -/
theorem takeAll_partial (bs : List Bool) (h : a.count + bs.length ≤ 7) :
    a.takeAll bs = { a with count := a.count + bs.length, acc := bs.foldl shiftIn a.acc } := by
  induction bs generalizing a with
  | nil => rfl
  | cons b bs ih =>
    rw [List.length_cons] at h
    rw [takeAll_cons, take_of_partial b (by omega), ih (by dsimp only; omega)]
    simp only [List.length_cons, List.foldl_cons, Nat.add_assoc, Nat.add_comm 1]

theorem takeAll_octet (os : List Byte) (acc o : Byte) :
    takeAll { octets := os, count := 0, acc := acc } (octetBits o) = { octets := os ++ [o], count := 0, acc := o } := by
  have hseven : octetBits o = (List.range 7).map o.getLsbD ++ [o.getLsbD 7] := by
    rw [octetBits, List.range_succ, List.map_append, List.map_singleton]
  have hoctet : shiftIn (((List.range 7).map o.getLsbD).foldl shiftIn acc) (o.getLsbD 7) = o := by
    have h := foldl_shiftIn_octetBits acc o
    rwa [hseven, List.foldl_append] at h
  have hpart := takeAll_partial (a := { octets := os, count := 0, acc := acc }) ((List.range 7).map o.getLsbD) (by simp)
  rw [hseven, takeAll_append, hpart, takeAll_cons, take_of_eighth _ (by simp), hoctet]
  rfl

/-- The bits of octets are assembled to the octets (R71, R176). -/
theorem takeAll_bitStream (p os : List Byte) (acc : Byte) :
    ∃ acc', takeAll { octets := os, count := 0, acc := acc } (bitStream p) =
      { octets := os ++ p, count := 0, acc := acc' } := by
  induction p generalizing os acc with
  | nil => exact ⟨acc, by rw [List.append_nil]; rfl⟩
  | cons o p ih =>
    obtain ⟨acc', h⟩ := ih (os ++ [o]) o
    refine ⟨acc', ?_⟩
    rw [← List.singleton_append, bitStream_append, bitStream_singleton, takeAll_append, takeAll_octet, h,
      List.append_assoc]

end Assembler

/-! ## A frame in reception -/

section
variable (s : State) (i : InstId) (h : Handle) (rest : List Handle)

/-- `s` with the octets of a frame in reception in slot h, which is taken from the top of the free list for the first of
them (R176). -/
def storing (os : List Byte) : State :=
  if os = [] then s
  else { s with
    slots := s.slots.set h { Slot.reset with owner := .rx i, octets := os }
    free := rest
    freeChunks := s.freeChunks - chunks os.length }

/-- The destuffer that assembles a frame, with `ones` 1s seen. -/
def assembling (a : Assembler) (ones : Nat) : Destuffer :=
  { ones := ones, olen := some a.count, oacc := a.acc, rx := if a.octets = [] then none else some h }

/-- `s` with demodulator i receiving a frame. -/
def receiving (a : Assembler) (ones : Nat) : State := (storing s i h rest a.octets).setDx i (assembling h a ones)

end

section
variable {s : State} {i : InstId} {h : Handle} {rest : List Handle} {a : Assembler} {ones : Nat}

theorem setDx_setDx (d e : Destuffer) : (s.setDx i d).setDx i e = s.setDx i e := by
  simp only [State.setDx, Vector.set_set]

theorem receiving_dx : (receiving s i h rest a ones).dx[i] = assembling h a ones := dx_set_self _ _ _

/-- A data bit that completes no octet (R176). -/
theorem receiving_partial {b : Bool} (hcount : a.count < 7) (hb : IsDataBit ones b) :
    (receiving s i h rest a ones).destuffBit i b =
      (none, receiving s i h rest (a.take b) (if b then ones + 1 else 0)) := by
  rw [destuffBit_partial (n := a.count) (by rw [receiving_dx]; rfl) hcount (by rw [receiving_dx]; exact hb),
    receiving_dx, Assembler.take_of_partial b hcount, receiving, setDx_setDx]
  rfl

theorem storing_of_ne_nil {os : List Byte} (hos : os ≠ []) :
    storing s i h rest os = { s with
      slots := s.slots.set h { Slot.reset with owner := .rx i, octets := os }
      free := rest
      freeChunks := s.freeChunks - chunks os.length } := if_neg hos

/-- The bit that completes a frame's first octet, with a clear slot and a chunk for it (R155, R157, R176). -/
theorem receiving_first_octet {b : Bool} (hfree : s.free = h :: rest) (hclear : s.slots[h] = Slot.reset)
    (hnil : a.octets = []) (hcount : a.count = 7) (hb : IsDataBit ones b) (hroom : 1 ≤ s.freeChunks) :
    (receiving s i h rest a ones).destuffBit i b =
      (none, receiving s i h rest (a.take b) (if b then ones + 1 else 0)) := by
  have hstart : receiving s i h rest a ones = s.setDx i (assembling h a ones) := by
    rw [receiving, hnil, storing, if_pos rfl]
  have hself : (s.setDx i (assembling h a ones)).dx[i] = assembling h a ones := dx_set_self _ _ _
  have hslot : (s.setDx i (assembling h a ones)).slots[h] = Slot.reset := hclear
  have hos : (s.setDx i (assembling h a ones)).octets h = [] := congrArg Slot.octets hclear
  have hchunk : chunks 1 = 1 := by rw [chunks_succ, chunks_zero, Nat.zero_mod, if_pos rfl]
  have hstep := destuffBit_eighth_slot (s := s.setDx i (assembling h a ones)) (b := b)
    (by rw [hself]; exact congrArg some hcount) (by rw [hself]; exact hb) (by rw [hself, assembling, if_pos hnil]) hfree
    (fun _ => Nat.one_le_iff_ne_zero.mp hroom)
  rw [hself, hos, hslot, List.length_nil, Nat.zero_mod, if_pos rfl] at hstep
  rw [hstart, hstep, Assembler.take_of_eighth b hcount, receiving, hnil, storing_of_ne_nil (by simp)]
  simp only [State.setDx, Vector.set_set, List.nil_append, List.length_singleton, hchunk]
  rfl

/-- The bit that completes a further octet, with a chunk where one is needed (R157, R176). -/
theorem receiving_next_octet {b : Bool} (hne : a.octets ≠ []) (hcount : a.count = 7) (hb : IsDataBit ones b)
    (hroom : chunks (a.octets.length + 1) ≤ s.freeChunks) :
    (receiving s i h rest a ones).destuffBit i b =
      (none, receiving s i h rest (a.take b) (if b then ones + 1 else 0)) := by
  have hslots : (receiving s i h rest a ones).slots =
      s.slots.set h { Slot.reset with owner := .rx i, octets := a.octets } := by
    rw [receiving, storing_of_ne_nil hne]
    rfl
  have hchunks : (receiving s i h rest a ones).freeChunks = s.freeChunks - chunks a.octets.length := by
    rw [receiving, storing_of_ne_nil hne]
    rfl
  have hos : (receiving s i h rest a ones).octets h = a.octets := by
    show (receiving s i h rest a ones).slots[h].octets = a.octets
    rw [hslots, slots_set_self]
  rw [chunks_succ] at hroom
  have hstep := destuffBit_eighth_rx (s := receiving s i h rest a ones) (i := i) (b := b) (h := h)
    (by rw [receiving_dx]; exact congrArg some hcount) (by rw [receiving_dx]; exact hb)
    (by rw [receiving_dx, assembling, if_neg hne])
    (fun hz => by rw [hos] at hz; rw [if_pos hz] at hroom; rw [hchunks]; omega)
  rw [receiving_dx, hos, hchunks, hslots, slots_set_self, Vector.set_set, Nat.sub_sub, ← chunks_succ] at hstep
  rw [hstep, Assembler.take_of_eighth b hcount, receiving, receiving, storing_of_ne_nil hne,
    storing_of_ne_nil (by simp)]
  simp only [State.setDx, Vector.set_set, List.length_append, List.length_singleton]
  simp [tookBit, assembling, hne, shiftIn]

/-- A data bit, with the chunks for the octets so far (R176). -/
theorem receiving_take {b : Bool} (hfree : s.free = h :: rest) (hclear : s.slots[h] = Slot.reset) (hcount : a.count ≤ 7)
    (hb : IsDataBit ones b) (hroom : chunks (a.take b).octets.length ≤ s.freeChunks) :
    (receiving s i h rest a ones).destuffBit i b =
      (none, receiving s i h rest (a.take b) (if b then ones + 1 else 0)) := by
  rcases Nat.lt_or_eq_of_le hcount with hlt | h7
  · exact receiving_partial hlt hb
  · rw [Assembler.take_of_eighth b h7, List.length_append, List.length_singleton] at hroom
    by_cases hnil : a.octets = []
    · refine receiving_first_octet hfree hclear hnil h7 hb (le_trans ?_ hroom)
      rw [chunks_succ, hnil, List.length_nil, Nat.zero_mod, if_pos rfl]
      omega
    · exact receiving_next_octet hnil h7 hb hroom

/-- A stuffed 0 (R175). -/
theorem receiving_stuffed :
    (receiving s i h rest a 5).destuffBit i false = (none, receiving s i h rest a 0) := by
  rw [destuffBit_stuffed (by rw [receiving_dx]; rfl), receiving_dx, receiving, setDx_setDx]
  rfl

/-- A stuffed body leads a receiving destuffer where its payload's bits lead the assembler, fewer than five 1s seen at
the end: the zeros stuffed in are skipped (R166, R175). -/
theorem receiving_stuffBits (hfree : s.free = h :: rest) (hclear : s.slots[h] = Slot.reset) (bs : List Bool)
    (hcount : a.count ≤ 7) (hones : ones ≤ 4) (hroom : chunks (a.takeAll bs).octets.length ≤ s.freeChunks) :
    ∃ ones' ≤ 4, FeedsSilently i (receiving s i h rest a ones) (stuffBits ones bs)
      (receiving s i h rest (a.takeAll bs) ones') := by
  induction bs generalizing a ones with
  | nil => exact ⟨ones, hones, .nil _ _⟩
  | cons b bs ih =>
    rw [Assembler.takeAll_cons] at hroom ⊢
    have hroom' : chunks (a.take b).octets.length ≤ s.freeChunks :=
      le_trans (chunks_mono (Assembler.length_le_takeAll bs (a.take b))) hroom
    have hcount' := Assembler.take_count_le b hcount
    cases b with
    | false =>
      have hdata : IsDataBit ones false := .inr ⟨rfl, by omega, by omega⟩
      have hbit := receiving_take (i := i) hfree hclear hcount hdata hroom'
      obtain ⟨ones', hle, hrest⟩ := ih hcount' (Nat.zero_le 4) hroom
      exact ⟨ones', hle, .cons hbit hrest⟩
    | true =>
      have hdata : IsDataBit ones true := .inl ⟨rfl, by omega⟩
      have hbit := receiving_take (i := i) hfree hclear hcount hdata hroom'
      unfold stuffBits
      split
      · next h5 =>
        obtain ⟨ones', hle, hrest⟩ := ih hcount' (Nat.zero_le 4) hroom
        rw [if_pos rfl, h5] at hbit
        exact ⟨ones', hle, .cons hbit (.cons receiving_stuffed hrest)⟩
      · next h5 =>
        obtain ⟨ones', hle, hrest⟩ := ih (ones := ones + 1) hcount' (by omega) hroom
        exact ⟨ones', hle, .cons hbit hrest⟩

/-! ## Flags -/

/-- A flag is six 1s between two 0s. -/
theorem octetBits_flagOctet : octetBits flagOctet = false :: (List.replicate 6 true ++ [false]) := by decide

theorem take_octetBits_flagOctet :
    ∀ k < 7, (octetBits flagOctet).take (k + 1) = false :: List.replicate k true := by decide

/-- Up to six 1s in a row, while they complete no octet, are data (R175). -/
theorem receiving_ones (k : Nat) (hcount : a.count + k ≤ 7) (hones : ones + k ≤ 6) :
    FeedsSilently i (receiving s i h rest a ones) (List.replicate k true)
      (receiving s i h rest (a.takeAll (List.replicate k true)) (ones + k)) := by
  induction k generalizing a ones with
  | zero => exact .nil _ _
  | succ k ih =>
    have hbit : (receiving s i h rest a ones).destuffBit i true = _ :=
      receiving_partial (by omega) (.inl ⟨rfl, by omega⟩)
    have htake : (a.take true).count + k ≤ 7 := by
      rw [Assembler.take_of_partial true (by omega)]
      dsimp only
      omega
    have hrest := ih (ones := ones + 1) htake (by omega)
    rw [Nat.add_right_comm, Nat.add_assoc] at hrest
    exact .cons hbit hrest

/-- The first bits of a flag, up to seven, are data that start an octet and complete none (R175, R176). -/
theorem receiving_flagStart {os : List Byte} {acc : Byte} (m : Nat) (hm : m ≤ 7) (hones : ones ≤ 4) :
    ∃ acc' ones', (m = 7 → ones' = 6) ∧
      FeedsSilently i (receiving s i h rest { octets := os, count := 0, acc := acc } ones)
        ((octetBits flagOctet).take m) (receiving s i h rest { octets := os, count := m, acc := acc' } ones') := by
  cases m with
  | zero => exact ⟨acc, ones, nofun, .nil _ _⟩
  | succ k =>
    have hbit : (receiving s i h rest { octets := os, count := 0, acc := acc } ones).destuffBit i false = _ :=
      receiving_partial (by dsimp only; omega) (.inr ⟨rfl, by omega, by omega⟩)
    have hrest := receiving_ones (s := s) (i := i) (h := h) (rest := rest) (ones := 0)
      (a := { octets := os, count := 1, acc := shiftIn acc false }) k (by dsimp only; omega) (by omega)
    rw [Assembler.takeAll_partial _ (by rw [List.length_replicate]; dsimp only; omega), List.length_replicate,
      Nat.zero_add, Nat.add_comm 1 k] at hrest
    rw [take_octetBits_flagOctet k (by omega)]
    exact ⟨_, k, by omega, .cons hbit hrest⟩

/-- A hunting destuffer that has seen `ones` 1s. -/
def hunting (ones : Nat) : Destuffer := { ones := ones, olen := none, oacc := 0, rx := none }

/-- While hunting, up to six 1s are counted (R176). -/
theorem hunting_ones (k : Nat) (hones : ones + k ≤ 6) :
    FeedsSilently i (s.setDx i (hunting ones)) (List.replicate k true) (s.setDx i (hunting (ones + k))) := by
  induction k generalizing ones with
  | zero => exact .nil _ _
  | succ k ih =>
    have hself : (s.setDx i (hunting ones)).dx[i] = hunting ones := dx_set_self _ _ _
    have hdata : IsDataBit ones true := .inl ⟨rfl, by omega⟩
    have hbit := destuffBit_hunting (s := s.setDx i (hunting ones)) (i := i) (b := true) (by rw [hself]; rfl)
      (by rw [hself]; exact hdata)
    rw [hself, setDx_setDx] at hbit
    have hrest := ih (ones := ones + 1) (by omega)
    rw [Nat.add_right_comm, Nat.add_assoc] at hrest
    exact .cons hbit hrest

/-- The opening flag ends hunting and changes nothing else (R175, R177). -/
theorem hunting_flag (hdx : s.dx[i] = hunting 0) :
    FeedsSilently i s (octetBits flagOctet) (s.setDx i atFrameStart) := by
  have hzero : s.destuffBit i false = (none, s.setDx i (hunting 0)) := by
    have hbit := destuffBit_hunting (s := s) (i := i) (b := false) (by rw [hdx]; rfl)
      (by rw [hdx]; exact .inr (by decide))
    rw [hdx] at hbit
    exact hbit
  have hself : (s.setDx i (hunting 6)).dx[i] = hunting 6 := dx_set_self _ _ _
  have hlast : (s.setDx i (hunting 6)).destuffBit i false = (none, s.setDx i atFrameStart) := by
    rw [destuffBit_flag (by rw [hself]; rfl), closeRx_of_no_rx (by rw [hself, State.setDx_dx, dx_set_self]; rfl),
      setDx_setDx, setDx_setDx]
  rw [octetBits_flagOctet]
  exact .cons hzero ((hunting_ones 6 (by decide)).append (.cons hlast (.nil _ _)))

/-- The slot of a received frame that passed its check (R177). -/
def receivedSlot (i : InstId) (p : List Byte) : Slot :=
  { owner := .rx i, octets := p, metaByte := 0x10, fcs := receivedFcs p, crc := 0x0F47, complete := true }

/-- The last bit of the closing flag hands on a good frame (R177). -/
theorem receiving_close {p : List Byte} {acc : Byte} (hlen : 3 ≤ p.length) (hcrc : residue p = 0x0F47) :
    ∃ t, (receiving s i h rest { octets := p, count := 7, acc := acc } 6).destuffBit i false = (some h, t) ∧
      t.dx[i] = atFrameStart ∧ t.slots[h] = receivedSlot i p ∧ t.free = rest ∧
      t.freeChunks = s.freeChunks - chunks p.length := by
  have hne : p ≠ [] := by rintro rfl; simp at hlen
  generalize hu : receiving s i h rest { octets := p, count := 7, acc := acc } 6 = u
  have hdx : u.dx[i] = assembling h { octets := p, count := 7, acc := acc } 6 := by rw [← hu, receiving_dx]
  have hslot : u.slots[h] = { Slot.reset with owner := .rx i, octets := p } := by
    rw [← hu, receiving, storing_of_ne_nil hne, State.setDx_slots, slots_set_self]
  have hfree : u.free = rest := by
    rw [← hu, receiving, storing_of_ne_nil hne]
    rfl
  have hchunks : u.freeChunks = s.freeChunks - chunks p.length := by
    rw [← hu, receiving, storing_of_ne_nil hne]
    rfl
  have hself : (u.setDx i { u.dx[i] with ones := 0 }).dx[i] = { u.dx[i] with ones := 0 } := dx_set_self _ _ _
  have hos : (u.setDx i { u.dx[i] with ones := 0 }).octets h = p := congrArg Slot.octets hslot
  have hclose := closeRx_of_good (s := u.setDx i { u.dx[i] with ones := 0 }) (i := i) (h := h)
    (by rw [hself, hdx, assembling, if_neg hne]) (by rw [hself, hdx]; rfl) (by rw [hos]; exact hlen)
    (by rw [hos]; exact hcrc)
  rw [destuffBit_flag (by rw [hdx]; rfl), hclose]
  refine ⟨_, rfl, dx_set_self _ _ _, ?_, hfree, hchunks⟩
  rw [State.setDx_slots, State.setSlot_slots, slots_set_self, hos, State.setDx_slots, hslot]
  rfl

/-- The pad after a closing flag starts an octet and completes none, so it touches the destuffer only (R176). -/
theorem frameStart_pad (hdx : s.dx[i] = atFrameStart) (m : Nat) (hm : m ≤ 7) :
    ∃ d, FeedsSilently i s ((octetBits flagOctet).take m) (s.setDx i d) := by
  obtain ⟨acc', ones', -, hpad⟩ := receiving_flagStart (s := s) (i := i) (h := 0) (rest := []) (os := []) (acc := 0)
    (ones := 0) m hm (Nat.zero_le 4)
  have hstart : receiving s i 0 [] { octets := [], count := 0, acc := 0 } 0 = s := by
    show { s with dx := s.dx.set i atFrameStart } = s
    rw [vectorSet_eq_self hdx]
  rw [hstart] at hpad
  exact ⟨_, hpad⟩

end

/-- The stuffed stream, cut before the last bit of its closing flag. -/
theorem bitStream_stuff_closing (p : List Byte) :
    bitStream (stuff p) = octetBits flagOctet ++ stuffBits 0 (bitStream p) ++ (octetBits flagOctet).take 7 ++
      false :: (octetBits flagOctet).take (padLength (stuffBits 0 (bitStream p)).length) := by
  have hflag : octetBits flagOctet = (octetBits flagOctet).take 7 ++ [false] := by decide
  rw [bitStream_stuff, List.append_cons, List.append_assoc _ _ [false], ← hflag]

/-- Settles O52: opening flag, body, the first seven bits of the closing flag, its last bit, pad. -/
theorem stuffDestuffRoundTrip : Obligations.StuffDestuffRoundTrip := by
  intro s i p h rest hdx hlen hres hfree hclear hroom
  have hopen := hunting_flag (s := s) (i := i) hdx
  obtain ⟨acc, htake⟩ := Assembler.takeAll_bitStream p [] 0
  rw [List.nil_append] at htake
  obtain ⟨ones, hones, hbody⟩ := receiving_stuffBits (i := i) (a := { octets := [], count := 0, acc := 0 }) (ones := 0)
    hfree hclear (bitStream p) (Nat.zero_le 7) (Nat.zero_le 4) (by rw [htake]; exact hroom)
  rw [htake] at hbody
  obtain ⟨acc', ones', hsix, hseven⟩ := receiving_flagStart (s := s) (i := i) (h := h) (rest := rest) (os := p)
    (acc := acc) 7 le_rfl hones
  rw [hsix rfl] at hseven
  obtain ⟨t, hclose, ht, hslot, hfree', hchunks⟩ := receiving_close (s := s) (i := i) (h := h) (rest := rest)
    (acc := acc') hlen hres
  have hpadlen : padLength (stuffBits 0 (bitStream p)).length < 8 := Nat.mod_lt _ (by decide)
  obtain ⟨d, hpad⟩ := frameStart_pad ht (padLength (stuffBits 0 (bitStream p)).length) (by omega)
  have hbefore := (hopen.append hbody).append hseven
  unfold FeedsSilently at hbefore hpad
  have hbits : (octetBits flagOctet ++ stuffBits 0 (bitStream p) ++ (octetBits flagOctet).take 7).length =
      15 + (stuffBits 0 (bitStream p)).length := by
    simp only [List.length_append, List.length_take, length_octetBits]
    omega
  have hpadBits : ((octetBits flagOctet).take (padLength (stuffBits 0 (bitStream p)).length)).length =
      padLength (stuffBits 0 (bitStream p)).length := by
    rw [List.length_take, length_octetBits]
    omega
  refine ⟨padLength (stuffBits 0 (bitStream p)).length, t.setDx i d, ?_, hpadlen, hslot, hfree', hchunks⟩
  rw [bitStream_stuff_closing, destuffBits_append, hbefore, destuffBits_cons, hclose, hpad, hbits, hpadBits, List.append_assoc]
  rfl

end Sys2Proof.Proofs
end

section
/-!
SUPPORT. GF(2^8) as the quotient of GF(2)[X] by the polynomial 0x11D: the element a byte stands for, and the tables'
operations as operations on elements (spec/43_fx25.md R200-R202).
-/

namespace Sys2Proof.Proofs

open Sys2Proof.Machine Sys2Proof.Safety Polynomial

/-! ## The field -/

/-- The polynomial 0x11D over GF(2) (R200). -/
noncomputable def fieldPoly : (ZMod 2)[X] := X ^ 8 + X ^ 4 + X ^ 3 + X ^ 2 + 1

/-- The polynomials over GF(2) modulo 0x11D (R202). -/
abbrev Field256 := AdjoinRoot fieldPoly

/-- α, the class of X (R202). -/
noncomputable def alpha : Field256 := AdjoinRoot.root fieldPoly

/-- The element a byte stands for: bit k is the coefficient of α^k. -/
noncomputable def element (x : Byte) : Field256 := ∑ k ∈ Finset.range 8, if x.getLsbD k then alpha ^ k else 0

theorem field_nontrivial : Nontrivial Field256 := by
  have hdegree : fieldPoly.degree = 8 := by
    unfold fieldPoly
    compute_degree!
  exact AdjoinRoot.nontrivial _ (by rw [hdegree]; decide)

/-- Minus is plus (R202). -/
theorem add_self (a : Field256) : a + a = 0 := by
  rw [← two_smul (ZMod 2) a, show (2 : ZMod 2) = 0 from rfl, zero_smul]

theorem alpha_pow_eight : alpha ^ 8 = alpha ^ 4 + alpha ^ 3 + alpha ^ 2 + 1 := by
  have hroot : alpha ^ 8 + alpha ^ 4 + alpha ^ 3 + alpha ^ 2 + 1 = 0 := by
    have hclass : AdjoinRoot.mk fieldPoly (X ^ 8 + X ^ 4 + X ^ 3 + X ^ 2 + 1) = 0 := AdjoinRoot.mk_self
    simpa only [alpha, map_add, map_pow, map_one, AdjoinRoot.mk_X] using hclass
  linear_combination hroot - add_self (alpha ^ 4 + alpha ^ 3 + alpha ^ 2 + 1)

/-! ## Bytes as elements -/

@[simp] theorem element_zero : element 0#8 = 0 := by simp [element]

@[simp] theorem element_one : element 1#8 = 1 := by simp [element]

/-- Addition of elements is XOR of bytes (R202). -/
@[simp] theorem element_xor (x y : Byte) : element (x ^^^ y) = element x + element y := by
  rw [element, element, element, ← Finset.sum_add_distrib]
  refine Finset.sum_congr rfl fun k _ => ?_
  rw [BitVec.getLsbD_xor]
  cases x.getLsbD k <;> cases y.getLsbD k <;> simp [add_self]

/-- Doubling shifts, and reduces when bit 7 leaves the byte (R200). -/
theorem gfDouble_eq (x : Byte) : gfDouble gfPoly x = x <<< 1 ^^^ (if x.getLsbD 7 then 0x1D else 0) := by
  revert x
  decide +kernel

/-- Doubling a byte is multiplication by α (R200, R202). -/
theorem element_gfDouble (x : Byte) : element (gfDouble gfPoly x) = alpha * element x := by
  have hreduction : element 0x1D = alpha ^ 8 := by
    rw [alpha_pow_eight]
    simp [element, Finset.sum_range_succ, add_comm, add_left_comm, add_assoc]
  have hshift : element (x <<< 1) + (if x.getLsbD 7 then alpha ^ 8 else 0) = alpha * element x := by
    simp [element, Finset.sum_range_succ, mul_add, pow_succ']
  rw [gfDouble_eq, element_xor, ← hshift, ← hreduction]
  split <;> simp

/-! ## The built tables -/

/-- `exp` reads the printed antilog table (R210). -/
theorem exp_eq_reference (e : Nat) : Laws.referenceAlpha[e % 255]? = some (builtTables.exp e) := by
  have hlt : e % 255 < 256 := by omega
  rw [← Laws.built_alpha, List.getElem?_eq_getElem (by simpa using hlt), Vector.getElem_toList]
  simp only [GfTables.exp, nn]

/-- `log` reads the printed log table (R210). -/
theorem log_eq_reference (x : Byte) :
    (Laws.referenceLog[x.toNat]?).map BitVec.toNat = some (builtTables.log x) := by
  rw [← Laws.built_log, List.getElem?_eq_getElem (by simpa using x.isLt), Vector.getElem_toList, Option.map_some,
    GfTables.log]

theorem exp_mod (e : Nat) : builtTables.exp (e % 255) = builtTables.exp e := by
  simp only [GfTables.exp, nn, Nat.mod_mod]

@[simp] theorem exp_zero : builtTables.exp 0 = 1#8 := (Option.some.inj (exp_eq_reference 0)).symm

/-- Each entry of the antilog table is the double of the one before, around the whole group (R200, R201). -/
theorem exp_succ (e : Nat) : builtTables.exp (e + 1) = gfDouble gfPoly (builtTables.exp e) := by
  have htable : (Laws.referenceAlpha.take 255).rotate 1 = (Laws.referenceAlpha.take 255).map (gfDouble gfPoly) := by
    decide +kernel
  have hlt : ∀ n, n % 255 < 255 := fun n => Nat.mod_lt n (by decide)
  have hlen : (Laws.referenceAlpha.take 255).length = 255 := by decide +kernel
  have hentry := congrArg (·[e % 255]?) htable
  simp only [List.getElem?_rotate, hlen, hlt, Nat.mod_add_mod, List.getElem?_take_of_lt, List.getElem?_map,
    exp_eq_reference] at hentry
  exact Option.some.inj hentry

theorem log_exp (e : Nat) : builtTables.log (builtTables.exp e) = e % 255 := by
  have htable : (Laws.referenceAlpha.take 255).map (fun a => (Laws.referenceLog[a.toNat]?).map BitVec.toNat) =
      (List.range 255).map some := by decide +kernel
  have hlt : e % 255 < 255 := Nat.mod_lt e (by decide)
  have hentry := congrArg (·[e % 255]?) htable
  simp only [hlt, List.getElem?_take_of_lt, List.getElem?_map, List.getElem?_range, exp_eq_reference, Option.map_some,
    log_eq_reference] at hentry
  exact Option.some.inj (Option.some.inj hentry)

theorem exp_log {x : Byte} (hx : x ≠ 0) : builtTables.exp (builtTables.log x) = x := by
  have htable : Laws.referenceLog.tail.map (fun l => Laws.referenceAlpha[l.toNat % 255]?) =
      (List.range 255).map (fun k => some (BitVec.ofNat 8 (k + 1))) := by decide +kernel
  have hpos : x.toNat - 1 + 1 = x.toNat := by
    have : x.toNat ≠ 0 := fun h => hx (BitVec.eq_of_toNat_eq h)
    omega
  have hlt : x.toNat - 1 < 255 := by have := x.isLt; omega
  have hentry := congrArg (·[x.toNat - 1]?) htable
  simp only [List.getElem?_map, List.getElem?_tail, List.getElem?_range hlt, hpos, Option.map_some] at hentry
  obtain ⟨l, hl, hlog⟩ := Option.map_eq_some_iff.mp (log_eq_reference x)
  rw [hl, Option.map_some, hlog, exp_eq_reference, BitVec.ofNat_toNat] at hentry
  simpa using hentry

@[simp] theorem log_zero : builtTables.log 0#8 = 255 := (Option.some.inj (log_eq_reference 0)).symm

@[simp] theorem log_one : builtTables.log 1#8 = 0 := by rw [← exp_zero, log_exp]

theorem log_lt {x : Byte} (hx : x ≠ 0) : builtTables.log x < 255 := by
  have hmod := log_exp (builtTables.log x)
  rw [exp_log hx] at hmod
  omega

/-! ## The operations on elements -/

/-- The antilog of e is α^e (R202). -/
@[simp] theorem element_exp (e : Nat) : element (builtTables.exp e) = alpha ^ e := by
  induction e with
  | zero => simp
  | succ e ih => rw [exp_succ, element_gfDouble, ih, pow_succ']

/-- The group comes back to 1 after 255 steps (R201). -/
theorem isUnit_alpha : IsUnit alpha := by
  refine IsUnit.of_pow_eq_one (n := 255) ?_ (by decide)
  rw [← element_exp, ← exp_mod]
  simp

theorem alpha_pow_ne_zero (e : Nat) : alpha ^ e ≠ 0 := by
  have := field_nontrivial
  exact (isUnit_alpha.pow e).ne_zero

theorem exp_ne_zero (e : Nat) : builtTables.exp e ≠ 0 := by
  intro h
  refine alpha_pow_ne_zero e ?_
  rw [← element_exp, h]
  exact element_zero

theorem element_eq_pow {x : Byte} (hx : x ≠ 0) : element x = alpha ^ builtTables.log x := by
  rw [← element_exp, exp_log hx]

theorem element_eq_zero {x : Byte} : element x = 0 ↔ x = 0 := by
  constructor
  · intro h
    by_contra hx
    exact alpha_pow_ne_zero _ ((element_eq_pow hx).symm.trans h)
  · rintro rfl
    exact element_zero

/-- Different bytes stand for different elements. -/
theorem element_injective : Function.Injective element := by
  intro x y h
  rw [← BitVec.xor_eq_zero_iff]
  exact element_eq_zero.mp (by rw [element_xor, h, add_self])

/-- Multiplication through the tables is multiplication of elements (R202). -/
@[simp] theorem element_mul (x y : Byte) : element (builtTables.mul x y) = element x * element y := by
  unfold GfTables.mul
  split
  · next h => rcases h with rfl | rfl <;> simp
  · next h =>
    obtain ⟨hx, hy⟩ := not_or.mp h
    rw [element_exp, pow_add, ← element_eq_pow hx, ← element_eq_pow hy]

theorem element_iterate_gfDouble (x : Byte) (k : Nat) : element ((gfDouble gfPoly)^[k] x) = alpha ^ k * element x := by
  induction k with
  | zero => simp
  | succ k ih => rw [Function.iterate_succ_apply', element_gfDouble, ih, pow_succ', mul_assoc]

/-- The product of polynomials modulo 0x11D is multiplication of elements (R202). -/
theorem element_polyMul (x y : Byte) : element (polyMul x y) = element x * element y := by
  have hpartial : ∀ n, element ((List.range n).foldl
      (fun acc k => if y.getLsbD k then acc ^^^ (gfDouble gfPoly)^[k] x else acc) 0) =
      element x * ∑ k ∈ Finset.range n, if y.getLsbD k then alpha ^ k else 0 := by
    intro n
    induction n with
    | zero => simp
    | succ n ih =>
      rw [List.range_succ, List.foldl_append, List.foldl_cons, List.foldl_nil, Finset.sum_range_succ, mul_add, ← ih]
      split
      · rw [element_xor, element_iterate_gfDouble, mul_comm (element x)]
      · rw [mul_zero, add_zero]
  exact hpartial 8

/-- Settles O58: both products of bytes stand for the product of their elements. -/
theorem tableMultiplicationIsFieldMultiplication : Obligations.TableMultiplicationIsFieldMultiplication := by
  refine ⟨log_exp, fun _ => exp_log, log_zero, fun x y => element_injective ?_⟩
  rw [element_mul, element_polyMul]

end Sys2Proof.Proofs
end

section
/-!
SUPPORT. The generator polynomials and the systematic encoder over GF(2^8): lists of bytes as polynomials, the roots and
coefficients of a generator, and the parity as a remainder (spec/43_fx25.md R203-R209).
-/

namespace Sys2Proof.Proofs

open Sys2Proof.Machine Sys2Proof.Safety Polynomial

/-! ## Products of bytes -/

@[simp] theorem mul_zero_left (y : Byte) : builtTables.mul 0#8 y = 0#8 := if_pos (.inl rfl)

theorem mul_of_ne_zero {x y : Byte} (hx : x ≠ 0) (hy : y ≠ 0) :
    builtTables.mul x y = builtTables.exp (builtTables.log x + builtTables.log y) := if_neg (not_or.mpr ⟨hx, hy⟩)

theorem xor_mul (x y z : Byte) : builtTables.mul (x ^^^ y) z = builtTables.mul x z ^^^ builtTables.mul y z := by
  apply element_injective
  simp [add_mul]

/-- Adding to a log multiplies by a power of α (R202). -/
theorem exp_log_add {x : Byte} (hx : x ≠ 0) (k : Nat) :
    builtTables.exp (builtTables.log x + k) = builtTables.mul x (builtTables.exp k) := by
  apply element_injective
  simp [pow_add, element_eq_pow hx]

theorem isUnit_element {x : Byte} (hx : x ≠ 0) : IsUnit (element x) := by
  rw [element_eq_pow hx]
  exact isUnit_alpha.pow _

/-- Powers of α below the order of the group are different, so their sum is invertible (R201). -/
theorem isUnit_alpha_pow_add {j k : Nat} (hj : j < 255) (hk : k < 255) (hne : j ≠ k) :
    IsUnit (alpha ^ j + alpha ^ k) := by
  rw [← element_exp, ← element_exp, ← element_xor]
  refine isUnit_element fun h => hne ?_
  have hlog := congrArg builtTables.log (BitVec.xor_eq_zero_iff.mp h)
  rwa [log_exp, log_exp, Nat.mod_eq_of_lt hj, Nat.mod_eq_of_lt hk] at hlog

/-! ## Lists of bytes as polynomials -/

/-- The polynomial whose coefficients a list gives, from X^0 up (R203). -/
noncomputable def asPoly (p : List Byte) : Field256[X] := p.foldr (fun c q => C (element c) + X * q) 0

@[simp] theorem asPoly_nil : asPoly [] = 0 := rfl

@[simp] theorem asPoly_cons (c : Byte) (p : List Byte) : asPoly (c :: p) = C (element c) + X * asPoly p := rfl

theorem asPoly_append (p q : List Byte) : asPoly (p ++ q) = asPoly p + X ^ p.length * asPoly q := by
  induction p with
  | nil => simp
  | cons c p ih => simp only [List.cons_append, asPoly_cons, ih, List.length_cons]; ring

@[simp] theorem asPoly_replicate_zero (n : Nat) : asPoly (List.replicate n 0#8) = 0 := by
  induction n with
  | zero => rfl
  | succ n ih => simp [List.replicate_succ, ih]

theorem asPoly_coeff (p : List Byte) (k : Nat) : (asPoly p).coeff k = element (p.getD k 0) := by
  induction p generalizing k with
  | nil => simp
  | cons c p ih => cases k <;> simp [coeff_C, ih]

/-- Lists of one length add entry by entry. -/
theorem asPoly_zipWith_xor {p q : List Byte} (h : p.length = q.length) :
    asPoly (List.zipWith (· ^^^ ·) p q) = asPoly p + asPoly q := by
  induction p generalizing q with
  | nil => simp [List.length_eq_zero_iff.mp h.symm]
  | cons c p ih =>
    cases q with
    | nil => simp at h
    | cons d q =>
      simp only [List.zipWith_cons_cons, asPoly_cons, element_xor, C_add, ih (Nat.succ.inj h)]
      ring

theorem asPoly_map_mul (f : Byte) (p : List Byte) : asPoly (p.map (builtTables.mul f)) = C (element f) * asPoly p := by
  induction p with
  | nil => simp
  | cons c p ih => simp only [List.map_cons, asPoly_cons, element_mul, C_mul, ih]; ring

/-- The value of a codeword is the value of its polynomial: its first symbol has the highest degree (R207). -/
theorem element_evalAt (w : List Byte) (x : Byte) :
    element (evalAt builtTables w x) = (asPoly w.reverse).eval (element x) := by
  induction w using List.reverseRecOn with
  | nil => simp [evalAt]
  | append_singleton w c ih =>
    simp only [evalAt, List.foldl_append, List.foldl_cons, List.foldl_nil] at ih ⊢
    simp only [element_xor, element_mul, ih, List.reverse_append, List.reverse_singleton, List.singleton_append,
      asPoly_cons, eval_add, eval_mul, eval_C, eval_X]
    ring

/-! ## The generator polynomials -/

/-- The product of (X - α^r) for r from 1 to n (R203). -/
noncomputable def genPoly (n : Nat) : Field256[X] := ∏ i ∈ Finset.range n, (X + C (alpha ^ (i + 1)))

/-- The zero test in R203's loop is the zero test of a product. -/
theorem genFactor_eq {p : List Byte} (root : Nat) (hp : p.headD 0 ≠ 0) :
    genFactor builtTables root p = builtTables.mul (p.headD 0) (builtTables.exp root) ::
      (List.zipWith (fun prev cur => prev ^^^ builtTables.mul cur (builtTables.exp root)) p p.tail ++ [1]) := by
  have hcell : (fun prev cur : Byte =>
      if cur ≠ 0 then prev ^^^ builtTables.exp (builtTables.log cur + root) else prev) =
      fun prev cur => prev ^^^ builtTables.mul cur (builtTables.exp root) := by
    funext prev cur
    split
    · next h => rw [exp_log_add h]
    · next h => simp [not_not.mp h]
  rw [genFactor, hcell, exp_log_add hp]

/-- The cells of a factor above the constant one, for a monic polynomial. -/
theorem asPoly_factor_cells (root : Nat) (c : Byte) (p : List Byte) (h : (c :: p).getLast? = some 1) :
    C (element c) * C (alpha ^ root) + X * asPoly (List.zipWith
      (fun prev cur => prev ^^^ builtTables.mul cur (builtTables.exp root)) (c :: p) p ++ [1]) =
    (X + C (alpha ^ root)) * asPoly (c :: p) := by
  induction p generalizing c with
  | nil =>
    obtain rfl : c = 1 := by simpa using h
    simp only [List.zipWith_nil_right, List.nil_append, asPoly_cons, asPoly_nil]
    ring
  | cons d p ih =>
    have hrest := ih d (by simpa using h)
    simp only [List.zipWith_cons_cons, List.cons_append, asPoly_cons, element_xor, element_mul, element_exp, C_add,
      C_mul] at hrest ⊢
    linear_combination X * hrest

/-- What R203's loop keeps: the degree, the leading coefficient 1, a constant term other than 0, and the product. -/
theorem buildGen_sound (n : Nat) :
    (buildGen builtTables n).length = n + 1 ∧ (buildGen builtTables n).getLast? = some 1 ∧
      (buildGen builtTables n).headD 0 ≠ 0 ∧ asPoly (buildGen builtTables n) = genPoly n := by
  induction n with
  | zero => simp [buildGen, genPoly]
  | succ n ih =>
    obtain ⟨hlen, hlast, hhead, hpoly⟩ := ih
    have hsucc : buildGen builtTables (n + 1) = genFactor builtTables (n + 1) (buildGen builtTables n) := by
      simp [buildGen, List.range_succ, fcr, prim, Nat.add_comm]
    rw [hsucc, genFactor_eq _ hhead]
    cases hp : buildGen builtTables n with
    | nil => simp [hp] at hlen
    | cons c p =>
      rw [hp] at hlen hlast hhead hpoly
      refine ⟨?_, ?_, ?_, ?_⟩
      · simpa using hlen
      · rw [← List.cons_append]
        exact List.getLast?_concat
      · rw [← exp_log_add hhead, List.headD_cons]
        exact exp_ne_zero _
      · rw [genPoly, Finset.prod_range_succ, ← genPoly, ← hpoly, mul_comm,
          ← asPoly_factor_cells (n + 1) c p hlast]
        simp

theorem length_buildGen (n : Nat) : (buildGen builtTables n).length = n + 1 := (buildGen_sound n).1

theorem asPoly_buildGen (n : Nat) : asPoly (buildGen builtTables n) = genPoly n := by
  obtain ⟨-, -, -, hpoly⟩ := buildGen_sound n
  exact hpoly

/-- The coefficients of a generator below its leading 1 (R203). -/
def genLow (n : Nat) : List Byte := (buildGen builtTables n).take n

@[simp] theorem length_genLow (n : Nat) : (genLow n).length = n := by simp [genLow, length_buildGen]

theorem buildGen_eq_genLow (n : Nat) : buildGen builtTables n = genLow n ++ [1] := by
  obtain ⟨hlen, hlast, -, -⟩ := buildGen_sound n
  obtain ⟨low, hlow⟩ := List.getLast?_eq_some_iff.mp hlast
  have hn : low.length = n := by simpa [hlow] using hlen
  rw [genLow, hlow, ← hn, List.take_left]

/-- A coefficient in log form (R204). -/
def logByte (c : Byte) : Byte := builtTables.indexOf[c.toNat]

theorem toNat_logByte (c : Byte) : (logByte c).toNat = builtTables.log c := rfl

theorem buildGenLog_eq (n : Nat) : buildGenLog builtTables n = (genLow n).map logByte ++ [0] := by
  have hone : logByte 1 = 0 := BitVec.eq_of_toNat_eq ((toNat_logByte 1).trans log_one)
  have hgen : buildGenLog builtTables n = (genLow n ++ [1]).map logByte := congrArg _ (buildGen_eq_genLow n)
  rw [hgen, List.map_append, List.map_singleton, hone]

theorem asPoly_genLow (n : Nat) : asPoly (genLow n) + X ^ n = genPoly n := by
  rw [← asPoly_buildGen, buildGen_eq_genLow, asPoly_append, length_genLow]
  simp

/-- α^1 to α^n are roots of the generator (R203). -/
theorem genPoly_eval {n r : Nat} (h1 : 1 ≤ r) (hn : r ≤ n) : (genPoly n).eval (alpha ^ r) = 0 := by
  rw [genPoly, eval_prod]
  refine Finset.prod_eq_zero (Finset.mem_range.mpr (show r - 1 < n by omega)) ?_
  rw [Nat.sub_add_cancel h1, eval_add, eval_X, eval_C, add_self]

/-- Scaling X by α shifts the roots by one step of the group. -/
theorem genPoly_scaled (n : Nat) :
    (genPoly n).comp (C alpha * X) * (X + C (alpha ^ n)) = C (alpha ^ n) * ((X + 1) * genPoly n) := by
  have hscaled : (genPoly n).comp (C alpha * X) = C (alpha ^ n) * ∏ i ∈ Finset.range n, (X + C (alpha ^ i)) := by
    have hfactor : ∀ i, (X + C (alpha ^ (i + 1))).comp (C alpha * X) = C alpha * (X + C (alpha ^ i)) := by
      intro i
      rw [add_comp, X_comp, C_comp, pow_succ', C_mul, mul_add]
    rw [genPoly, prod_comp, Finset.prod_congr rfl fun i _ => hfactor i, Finset.prod_mul_distrib, Finset.prod_const,
      Finset.card_range, C_pow]
  have hshifted : (∏ i ∈ Finset.range n, (X + C (alpha ^ i))) * (X + C (alpha ^ n)) = (X + 1) * genPoly n := by
    rw [← Finset.prod_range_succ, Finset.prod_range_succ', genPoly, pow_zero, C_1, mul_comm]
  rw [hscaled, mul_assoc, hshifted]

/-- Each coefficient of a generator fixes the next. -/
theorem genPoly_coeff_succ (n k : Nat) :
    (genPoly n).coeff (k + 1) * (alpha ^ n * (alpha ^ (k + 1) + alpha ^ 0)) =
      (genPoly n).coeff k * (alpha ^ n + alpha ^ k) := by
  have hcoeff := congrArg (fun p => p.coeff (k + 1)) (genPoly_scaled n)
  simp only [mul_add, add_mul, coeff_add, coeff_mul_X, coeff_mul_C, coeff_C_mul, coeff_X_mul, one_mul,
    comp_C_mul_X_coeff] at hcoeff
  linear_combination hcoeff + add_self ((genPoly n).coeff (k + 1) * alpha ^ n)
    - add_self ((genPoly n).coeff k * alpha ^ k)

/-- No coefficient of a generator is 0, as long as its roots are different (R204). -/
theorem genPoly_coeff_isUnit {n : Nat} (hn : n < 255) (k : Nat) (hk : k ≤ n) : IsUnit ((genPoly n).coeff k) := by
  induction k with
  | zero =>
    obtain ⟨-, -, hhead, -⟩ := buildGen_sound n
    rw [List.headD_eq_head?_getD, List.head?_eq_getElem?, ← List.getD_eq_getElem?_getD] at hhead
    rw [← asPoly_buildGen, asPoly_coeff]
    exact isUnit_element hhead
  | succ k ih =>
    have hunit := (ih (by omega)).mul (isUnit_alpha_pow_add (j := n) (k := k) hn (by omega) (by omega))
    rw [← genPoly_coeff_succ] at hunit
    exact isUnit_of_mul_isUnit_left hunit

theorem buildGen_ne_zero {n : Nat} (hn : n < 255) {c : Byte} (hc : c ∈ buildGen builtTables n) : c ≠ 0 := by
  obtain ⟨k, hk, rfl⟩ := List.getElem_of_mem hc
  have hunit := genPoly_coeff_isUnit hn k (by rw [length_buildGen] at hk; omega)
  rw [← asPoly_buildGen, asPoly_coeff, List.getD_eq_getElem _ _ hk] at hunit
  have := field_nontrivial
  exact fun h => hunit.ne_zero (element_eq_zero.mpr h)

/-! ## The encoder -/

/-- One data symbol through the encoder with the generator of n roots (R206). -/
def builtStep (n : Nat) (bb : List Byte) (d : Byte) : List Byte :=
  rsStep builtTables n (buildGenLog builtTables n) bb d

/-- The parity of a data block with the generator of n roots (R206). -/
def builtParity (n : Nat) (data : List Byte) : List Byte := data.foldl (builtStep n) (List.replicate n 0)

theorem rsParity_eq_builtParity (n : Nat) (data : List Byte) :
    rsParity builtTables n (buildGenLog builtTables n) data = builtParity n data := rfl

theorem builtParity_concat (n : Nat) (data : List Byte) (d : Byte) :
    builtParity n (data ++ [d]) = builtStep n (builtParity n data) d := List.foldl_concat _ _ _ _

/-- A symbol that makes the feedback 0 only shifts the register (R206). -/
theorem builtStep_of_zero {n : Nat} {bb : List Byte} {d : Byte} (h : d ^^^ bb.headD 0 = 0) :
    builtStep n bb d = bb.tail ++ [0] := by
  have hlog : builtTables.log 0 = a0 := log_zero
  unfold builtStep rsStep
  dsimp only
  rw [h, if_neg (not_not.mpr hlog)]

section
variable {n : Nat} (hpos : 0 < n) (hn : n < 255)
include hpos hn

/-- A feedback other than 0 adds its multiple of the generator, cell by cell: no coefficient is 0, so each sum of logs
is the log of a product (R204, R206). -/
theorem builtStep_of_ne_zero {bb : List Byte} (hbb : bb.length = n) {d f : Byte} (hf : d ^^^ bb.headD 0 = f)
    (hne : f ≠ 0) :
    builtStep n bb d =
      List.zipWith (· ^^^ ·) (bb.tail ++ [0]) ((genLow n).reverse.map (builtTables.mul f)) := by
  have hlog : builtTables.log f ≠ a0 := (log_lt hne).ne
  have hlen := length_genLow n
  have hproduct : ∀ x ∈ genLow n, builtTables.exp (builtTables.log f + builtTables.log x) = builtTables.mul f x :=
    fun x hx => (mul_of_ne_zero hne (buildGen_ne_zero hn (List.mem_of_mem_take hx))).symm
  have hgen := buildGenLog_eq n
  have htake : (buildGenLog builtTables n).take n = (genLow n).map logByte := by
    rw [hgen, List.take_left' (by rw [List.length_map, hlen])]
  unfold builtStep rsStep
  dsimp only
  rw [hf, if_pos hlog, htake, hgen]
  cases hlow : genLow n with
  | nil =>
    rw [hlow] at hlen
    exact absurd hlen hpos.ne
  | cons c low =>
    rw [hlow] at hlen hproduct
    have hlength : bb.tail.length = (low.reverse.map (builtTables.mul f)).length := by
      rw [List.length_cons] at hlen
      simp [hbb, ← hlen]
    have hcells : low.reverse.map (builtTables.mul f) =
        low.reverse.map fun x => builtTables.exp (builtTables.log f + (logByte x).toNat) :=
      List.map_congr_left fun x hx => (hproduct x (List.mem_cons_of_mem c (List.mem_reverse.mp hx))).symm
    rw [List.reverse_cons, List.map_append, List.zipWith_append hlength, hcells, List.zipWith_map_right, List.map_cons,
      List.tail_cons, ← List.map_reverse, List.zipWith_map_right, List.map_singleton,
      ← hproduct c List.mem_cons_self]
    simp [toNat_logByte]

/-- One symbol through the encoder: the register shifts, and the feedback's multiple of the generator is added
(R206). -/
theorem builtStep_eq {bb : List Byte} (hbb : bb.length = n) (d : Byte) :
    builtStep n bb d = List.zipWith (· ^^^ ·) (bb.tail ++ [0])
      ((genLow n).reverse.map (builtTables.mul (d ^^^ bb.headD 0))) := by
  generalize hf : d ^^^ bb.headD 0 = f
  by_cases hzero : f = 0
  · subst hzero
    rw [builtStep_of_zero hf]
    refine List.ext_getElem ?_ fun k _ _ => ?_
    · simp [hbb, Nat.sub_add_cancel hpos]
    · simp
  · exact builtStep_of_ne_zero hpos hn hbb hf hzero

theorem length_builtStep {bb : List Byte} (hbb : bb.length = n) (d : Byte) : (builtStep n bb d).length = n := by
  simp [builtStep_eq hpos hn hbb, hbb, Nat.sub_add_cancel hpos]

theorem length_builtParity (data : List Byte) : (builtParity n data).length = n := by
  induction data using List.reverseRecOn with
  | nil => simp [builtParity]
  | append_singleton data d ih =>
    rw [builtParity_concat]
    exact length_builtStep hpos hn ih d

/-- One step of the division: the register is multiplied by X, the symbol enters at X^n, and the generator is taken out
(R207). -/
theorem asPoly_builtStep {bb : List Byte} (hbb : bb.length = n) (d : Byte) :
    asPoly (builtStep n bb d).reverse =
      X * asPoly bb.reverse + X ^ n * C (element d) + C (element (d ^^^ bb.headD 0)) * genPoly n := by
  cases bb with
  | nil => exact absurd hbb hpos.ne
  | cons h t =>
    have hlen : (t ++ [0]).length = ((genLow n).reverse.map (builtTables.mul (d ^^^ h))).length := by simpa using hbb
    have hpow : (X : Field256[X]) ^ n = X * X ^ t.length := by rw [← hbb, List.length_cons, pow_succ']
    have htwice : C (element d + element h) + C (element d + element h) = 0 := by rw [← C_add, add_self, C_0]
    rw [builtStep_eq hpos hn hbb, List.tail_cons, List.headD_cons, List.reverse_zipWith hlen, ← List.map_reverse,
      List.reverse_reverse, asPoly_zipWith_xor (by simpa using hlen), asPoly_map_mul, ← asPoly_genLow,
      List.reverse_cons, asPoly_append, List.length_reverse, List.reverse_append, hpow]
    simp only [List.reverse_singleton, List.singleton_append, asPoly_cons, asPoly_nil, BitVec.ofNat_eq_ofNat,
      element_zero, element_xor, C_0, C_add] at htwice ⊢
    linear_combination (-X * X ^ t.length) * htwice

/-- Data followed by its parity is a multiple of the generator: the parity is the remainder of the division (R207). -/
theorem genPoly_dvd_codeword (data : List Byte) : genPoly n ∣ asPoly (data ++ builtParity n data).reverse := by
  have hcodeword : ∀ w, asPoly (w ++ builtParity n w).reverse =
      asPoly (builtParity n w).reverse + X ^ n * asPoly w.reverse := by
    intro w
    rw [List.reverse_append, asPoly_append, List.length_reverse, length_builtParity hpos hn]
  induction data using List.reverseRecOn with
  | nil =>
    rw [hcodeword]
    simp [builtParity]
  | append_singleton data d ih =>
    have htwice : X ^ n * C (element d) + X ^ n * C (element d) = 0 := by
      rw [← mul_add, ← C_add, add_self, C_0, mul_zero]
    have hstep : asPoly (data ++ [d] ++ builtParity n (data ++ [d])).reverse =
        X * asPoly (data ++ builtParity n data).reverse +
          C (element (d ^^^ (builtParity n data).headD 0)) * genPoly n := by
      rw [hcodeword, hcodeword, builtParity_concat, asPoly_builtStep hpos hn (length_builtParity hpos hn data),
        List.reverse_append, List.reverse_singleton, List.singleton_append, asPoly_cons]
      linear_combination htwice
    rw [hstep]
    exact dvd_add (ih.mul_left X) (dvd_mul_left _ _)

end

/-! ## The three codes -/

theorem parity_pos (c : Code) : 0 < c.parity := by cases c <;> decide

theorem parity_lt (c : Code) : c.parity < 255 := by cases c <;> decide

/-- Settles O59: a codeword is a multiple of its generator. -/
theorem codewordHasTheGeneratorRoots : Obligations.CodewordHasTheGeneratorRoots := by
  intro c data r h1 hr
  rw [rsParity_eq_builtParity]
  apply element_eq_zero.mp
  obtain ⟨q, hq⟩ := genPoly_dvd_codeword (parity_pos c) (parity_lt c) data
  rw [element_evalAt, element_exp, hq, eval_mul, genPoly_eval h1 hr, zero_mul]

/-! ## Linearity -/

/-- A register of zeros stays so while the symbols are 0 (R209). -/
theorem foldl_builtStep_zeros {n : Nat} (hpos : 0 < n) (k : Nat) :
    (List.replicate k 0).foldl (builtStep n) (List.replicate n 0) = List.replicate n 0 := by
  obtain ⟨m, rfl⟩ : ∃ m, n = m + 1 := ⟨n - 1, by omega⟩
  have hstep : builtStep (m + 1) (List.replicate (m + 1) 0) 0 = List.replicate (m + 1) 0 := by
    rw [builtStep_of_zero (by simp [List.replicate_succ]), List.replicate_succ, List.tail_cons,
      ← List.replicate_succ', List.replicate_succ]
  induction k with
  | zero => rfl
  | succ k ih => rw [List.replicate_succ (n := k), List.foldl_cons, hstep, ih]

/-- Entry-by-entry sums of four lists can be taken in either order. -/
theorem zipWith_xor_swap (a b c d : List Byte) :
    List.zipWith (· ^^^ ·) (List.zipWith (· ^^^ ·) a b) (List.zipWith (· ^^^ ·) c d) =
      List.zipWith (· ^^^ ·) (List.zipWith (· ^^^ ·) a c) (List.zipWith (· ^^^ ·) b d) := by
  refine List.ext_getElem (by simp; omega) fun k _ _ => ?_
  simp only [List.getElem_zipWith]
  ac_rfl

section
variable {n : Nat} (hpos : 0 < n) (hn : n < 255)
include hpos hn

/-- The encoder's step is linear in the register and the symbol (R209). -/
theorem builtStep_xor {p q : List Byte} (hp : p.length = n) (hq : q.length = n) (d e : Byte) :
    builtStep n (List.zipWith (· ^^^ ·) p q) (d ^^^ e) =
      List.zipWith (· ^^^ ·) (builtStep n p d) (builtStep n q e) := by
  cases p with
  | nil => exact absurd hp hpos.ne
  | cons a p =>
    cases q with
    | nil => exact absurd hq hpos.ne
    | cons b q =>
      have hpq : p.length = q.length := Nat.succ.inj (hp.trans hq.symm)
      have hshift : List.zipWith (· ^^^ ·) p q ++ [0] = List.zipWith (· ^^^ ·) (p ++ [0]) (q ++ [(0 : Byte)]) := by
        rw [List.zipWith_append hpq]
        rfl
      have hfeedback : builtTables.mul (d ^^^ e ^^^ (a ^^^ b)) =
          fun x => builtTables.mul (d ^^^ a) x ^^^ builtTables.mul (e ^^^ b) x := by
        funext x
        rw [← xor_mul, show d ^^^ e ^^^ (a ^^^ b) = d ^^^ a ^^^ (e ^^^ b) by ac_rfl]
      rw [builtStep_eq hpos hn hp, builtStep_eq hpos hn hq, builtStep_eq hpos hn (by simp [← hp, ← hpq]),
        zipWith_xor_swap]
      simp only [List.zipWith_cons_cons, List.tail_cons, List.headD_cons, hshift, hfeedback]
      rw [List.zipWith_map, List.zipWith_self]

/-- Registers and data that are added entry by entry stay so (R209). -/
theorem foldl_builtStep_xor {a b p q : List Byte} (hab : a.length = b.length) (hp : p.length = n) (hq : q.length = n) :
    (List.zipWith (· ^^^ ·) a b).foldl (builtStep n) (List.zipWith (· ^^^ ·) p q) =
      List.zipWith (· ^^^ ·) (a.foldl (builtStep n) p) (b.foldl (builtStep n) q) := by
  induction a generalizing b p q with
  | nil => simp [List.length_eq_zero_iff.mp hab.symm]
  | cons d a ih =>
    cases b with
    | nil => simp at hab
    | cons e b =>
      rw [List.zipWith_cons_cons, List.foldl_cons, List.foldl_cons, List.foldl_cons, builtStep_xor hpos hn hp hq]
      exact ih (Nat.succ.inj hab) (length_builtStep hpos hn hp d) (length_builtStep hpos hn hq e)

end

/-- Settles O60: the register starts at zero, and its step is linear. -/
theorem parityIsLinear : Obligations.ParityIsLinear := by
  intro c a b k
  simp only [rsParity_eq_builtParity]
  have hzeros := foldl_builtStep_zeros (parity_pos c) k
  have hstart : (List.replicate c.parity (0 : Byte)).length = c.parity := List.length_replicate
  refine ⟨fun hab => ?_, hzeros, ?_⟩
  · have hlinear := foldl_builtStep_xor (parity_pos c) (parity_lt c) hab hstart hstart
    rwa [List.zipWith_replicate, min_self] at hlinear
  · rw [builtParity, List.foldl_append, hzeros]
    rfl

end Sys2Proof.Proofs
end

section
/-!
SUPPORT. The FX.25 commands: mode selection, tags and their self-test, RS_ENCODE, and the table reads (spec/43_fx25.md
R214-R226).
-/

namespace Sys2Proof.Proofs

open Sys2Proof.Machine Sys2Proof.Safety

/-! ## Commands that only answer -/

/-- A rule that answers and writes nothing changes the responses (R241). -/
theorem exec_of_respond {i : Instr} {s : State} {c : Status} {v0 v1 : Word} (hs : Ready s)
    (hr : ruleOf i s = .respond c v0 v1 s) : exec i s = .next (responded s c.code.toNat v0 v1) := by
  rw [exec_of_ready hs, hr]
  exact congrArg Host.Outcome.next (respond_eq_responded s c v0 v1)

/-- A rule that raises changes the responses, with both result words 0 (R243). -/
theorem exec_of_raised {i : Instr} {s : State} {c : Status} (hs : Ready s) (hr : ruleOf i s = .raised c) :
    exec i s = .next (responded s c.code.toNat 0 0) := by
  rw [exec_of_ready hs, hr]
  exact congrArg Host.Outcome.next (raised_eq_responded s c)

/-! ## FX25_PICK_MODE -/

/-- The mode PickMode names is answered with its block and data size (R216, R220). -/
theorem exec_pickMode {s : State} {n m : Nat} {mode : Mode} (hs : Ready s) (hpick : pickMode n = some m)
    (hmode : modeOf m = some mode) :
    exec (.fx25PickMode n) s = .next (responded s 0x00 (modeWord m mode) 0) :=
  exec_of_respond (c := .ok) hs (by simp only [ruleOf, hpick, hmode])

/-- Settles O53: each range is the first branch of PickMode that its lengths reach. -/
theorem pickModeRule : Obligations.PickModeRule := by
  have hrow : rowOf (.fx25PickMode 0) = (0xFFFFFE00, 0x80000000) := by decide
  refine ⟨encodes_of_row (fun _ => hrow) fun w => ?_, fun _ => commonChecks_of_gate rfl, fun s n hs =>
    ⟨fun h1 => ?_, fun h1 h2 => ?_, fun h1 h2 => ?_, fun h1 h2 => ?_, fun h1 h2 => ?_, fun h1 h2 => ?_,
      fun h1 => ?_⟩⟩
  · simp [Holds, operands, bits_eq_read]
  · exact exec_pickMode (m := 4) hs (by grind [pickMode]) rfl
  · exact exec_pickMode (m := 3) hs (by grind [pickMode]) rfl
  · exact exec_pickMode (m := 6) hs (by grind [pickMode]) rfl
  · exact exec_pickMode (m := 9) hs (by grind [pickMode]) rfl
  · exact exec_pickMode (m := 5) hs (by grind [pickMode]) rfl
  · exact exec_pickMode (m := 1) hs (by grind [pickMode]) rfl
  · have hpick : pickMode n = none := by grind [pickMode]
    exact exec_of_raised (c := .none) hs (by simp only [ruleOf, hpick])

/-! ## FX25_TAG -/

/-- Exactly the numbers 1 to 11 are modes (R214, R215). -/
theorem modeOperand_eq_none {m : Nat} : modeOperand m = none ↔ m = 0 ∨ 12 ≤ m := by
  constructor
  · intro h
    by_contra hm
    obtain ⟨h1, h11⟩ : 1 ≤ m ∧ m ≤ 11 := by omega
    interval_cases m <;> cases h
  · rintro (rfl | hm)
    · rfl
    · obtain ⟨k, rfl⟩ := Nat.exists_eq_add_of_le' hm
      rfl

/-- A tag's two words, the low one in VALUE0 (R222). -/
theorem exec_tag {s : State} {m : Nat} {mode : Mode} (hs : Ready s) (hmode : modeOperand m = some mode) :
    exec (.fx25Tag m) s = .next (responded s 0x00 (BitVec.ofNat 32 (tagAt tagTable m).toNat)
      (BitVec.ofNat 32 ((tagAt tagTable m).toNat / 2 ^ 32))) := by
  have hlow : (tagAt tagTable m).extractLsb 31 0 = BitVec.ofNat 32 (tagAt tagTable m).toNat := by
    rw [BitVec.extractLsb, BitVec.extractLsb', Nat.shiftRight_zero]
  have hhigh : (tagAt tagTable m).extractLsb 63 32 = BitVec.ofNat 32 ((tagAt tagTable m).toNat / 2 ^ 32) := by
    rw [BitVec.extractLsb, BitVec.extractLsb', Nat.shiftRight_eq_div_pow]
  rw [← hlow, ← hhigh]
  exact exec_of_respond (c := .ok) hs (by simp only [ruleOf, hmode])

/-- Settles O54. -/
theorem tagRule : Obligations.TagRule := by
  have hrow : rowOf (.fx25Tag 0) = (0xFFFFFFF0, 0x84000000) := by decide
  refine ⟨encodes_of_row (fun _ => hrow) fun w => ?_, fun _ => commonChecks_of_gate rfl, fun s m hs =>
    ⟨fun h1 h2 => ?_, fun hm => ?_⟩, rfl, by decide +kernel⟩
  · simp [Holds, operands, nibbleField, bits_eq_read]
  · have hsome : modeOperand m ≠ none := mt modeOperand_eq_none.mp (by omega)
    obtain ⟨mode, hmode⟩ := Option.ne_none_iff_exists'.mp hsome
    exact exec_tag hs hmode
  · exact exec_of_raised (c := .badOperand) hs (by simp only [ruleOf, modeOperand_eq_none.mpr hm])

/-! ## FX25_TAG_SELFTEST -/

/-- A pair of different defined tags at another distance fails the self-test (R217). -/
theorem tagSelfTest_of_bad_pair {tags : List Long} {t u : Nat} (ht : 1 ≤ t ∧ t ≤ 11) (hu : 1 ≤ u ∧ u ≤ 11)
    (hne : t ≠ u) (hbad : popcount (tagAt tags t ^^^ tagAt tags u) ≠ 32) : tagSelfTest tags = false := by
  have hnumber : ∀ n, 1 ≤ n ∧ n ≤ 11 → n ∈ tagNumbers := fun n hn =>
    List.mem_map.mpr ⟨n - 1, List.mem_range.mpr (by omega), by omega⟩
  refine Bool.eq_false_iff.mpr fun hpass => ?_
  have hpair := List.all_eq_true.mp (List.all_eq_true.mp hpass t (hnumber t ht)) u (hnumber u hu)
  simp [hne, hbad] at hpair

/-- Settles O55: the constant table passes, a table with a bad pair enters the fatal state. Protected, for the model has
a function of this name. -/
protected theorem tagSelftestRule : Obligations.TagSelftestRule := by
  refine ⟨encodes_of_no_operands (by decide) rfl, commonChecks_of_gate rfl,
    fun s hs => exec_of_respond (c := .ok) hs (tagSelftestRule_eq s), ?_⟩
  rintro tags s ⟨t, u, ht1, ht2, hu1, hu2, hne, hbad⟩
  rw [Machine.tagSelftestRule, tagSelfTest_of_bad_pair ⟨ht1, ht2⟩ ⟨hu1, hu2⟩ hne hbad]
  exact finish_fatalEntry 2 s

/-! ## RS_ENCODE -/

/-- The modes as R223 lists them: number, block size, data size and code. -/
def modeRows : List (Nat × Nat × Nat × Code) :=
  [(1, 255, 239, Code.p16), (2, 144, 128, .p16), (3, 80, 64, .p16), (4, 48, 32, .p16), (5, 255, 223, .p32),
   (6, 160, 128, .p32), (7, 96, 64, .p32), (8, 64, 32, .p32), (9, 255, 191, .p64), (10, 192, 128, .p64),
   (11, 128, 64, .p64)]

/-- Each listed mode is the model's, and its block is its data and the parity (R215). -/
theorem mode_of_row {m block k : Nat} {c : Code} (h : (m, block, k, c) ∈ modeRows) :
    modeOperand m = some ⟨block, k, c⟩ ∧ block = k + c.parity := by
  have hrows : ∀ r ∈ modeRows,
      modeOperand r.1 = some ⟨r.2.1, r.2.2.1, r.2.2.2⟩ ∧ r.2.1 = r.2.2.1 + r.2.2.2.parity := by decide
  exact hrows _ h

/-- With the chunks for them, FrameAppendN appends its octets (R158). -/
theorem frameAppendN_of_room {s : State} {f : Handle} {bs : List Byte}
    (hroom : chunks ((s.octets f).length + bs.length) ≤ s.freeChunks + chunks (s.octets f).length) :
    s.frameAppendN f bs = some { s with
      slots := s.slots.set f { s.slots[f] with octets := s.octets f ++ bs }
      freeChunks := s.freeChunks - (chunks ((s.octets f).length + bs.length) - chunks (s.octets f).length) } := by
  cases ha : s.frameAppendN f bs with
  | none =>
    have := frameAppendN_eq_none.mp ha
    omega
  | some t => exact congrArg some (frameAppendN_eq_some ha).2

section
variable {s : State}

/-- After SYS_INIT the state's parity is that of the built tables (R206, R268). -/
theorem parityOf_eq_builtParity (hs : Ready s) (ht : TablesBuilt s) (c : Code) (data : List Byte) :
    s.parityOf c data = builtParity c.parity data := by
  obtain ⟨hgf, hgen⟩ := ht hs.2
  rw [State.parityOf, hgf, hgen]
  rfl

variable {f : Handle} {m : Nat} {mode : Mode} (hmode : modeOperand m = some mode)
include hmode

theorem encodeRule_of_length (hlen : (s.octets f).length ≠ mode.data) : encodeRule m f s = .raised .badLength := by
  simp only [encodeRule, hmode]
  exact if_pos hlen

theorem encodeRule_of_exhausted (hlen : (s.octets f).length = mode.data)
    (hfew : s.freeChunks + chunks (s.octets f).length <
      chunks ((s.octets f).length + (s.parityOf mode.code (s.octets f)).length)) :
    encodeRule m f s = .raised .poolExhausted := by
  have hnone : s.frameAppendN f (s.parityOf mode.code (s.octets f)) = none := frameAppendN_eq_none.mpr (by omega)
  simp only [encodeRule, hmode, hnone]
  exact if_neg (not_not.mpr hlen)

/-- With the mode's data and the chunks, the parity is appended and the new length answered (R223). -/
theorem encodeRule_of_room (hlen : (s.octets f).length = mode.data)
    (hroom : chunks ((s.octets f).length + (s.parityOf mode.code (s.octets f)).length) ≤
      s.freeChunks + chunks (s.octets f).length) :
    encodeRule m f s =
      .respond .ok (Word.ofNat ((s.octets f).length + (s.parityOf mode.code (s.octets f)).length)) 0 { s with
        slots := s.slots.set f { s.slots[f] with octets := s.octets f ++ s.parityOf mode.code (s.octets f) }
        freeChunks := s.freeChunks -
          (chunks ((s.octets f).length + (s.parityOf mode.code (s.octets f)).length) -
            chunks (s.octets f).length) } := by
  simp only [encodeRule, hmode, frameAppendN_of_room hroom]
  rw [if_neg (not_not.mpr hlen)]
  simp only [State.octets, slots_set_self, List.length_append]

end

/-- Settles O56: the parity has the length the mode leaves for it, so the block is full. -/
theorem rsEncodeRule : Obligations.RsEncodeRule := by
  have hrow : rowOf (.rsEncode 0 0) = (0xFC0FFFF0, 0x8C000000) := by decide
  refine ⟨encodes_of_row (fun _ => hrow) fun w => ?_, fun _ _ => commonChecks_of_gate rfl,
    fun _ => handleChecked_of_onFrame (fun _ => rfl),
    fun s h f m hs ht hf => ⟨fun hm => ?_, fun block k c hmem => ?_⟩⟩
  · simp [Holds, operands, handleField, nibbleField, bits_eq_read]
  · exact exec_of_raise (c := .badOperand) rfl hs hf (by simp only [encodeRule, modeOperand_eq_none.mpr hm])
  · obtain ⟨hmode, rfl⟩ := mode_of_row hmem
    have hlength := length_builtParity (parity_pos c) (parity_lt c) (s.octets f)
    refine ⟨fun hlen => ?_, fun hlen hfew => ?_, fun hlen hroom =>
      ⟨builtParity c.parity (s.octets f), by omega, (rsParity_eq_builtParity _ _).symm, ?_⟩⟩
    · exact exec_of_raise (c := .badLength) rfl hs hf (encodeRule_of_length hmode hlen)
    · refine exec_of_raise (c := .poolExhausted) rfl hs hf (encodeRule_of_exhausted hmode hlen ?_)
      rwa [parityOf_eq_builtParity hs ht, hlength, hlen]
    · have happend := encodeRule_of_room hmode hlen (by rwa [parityOf_eq_builtParity hs ht, hlength, hlen])
      rw [parityOf_eq_builtParity hs ht, hlength, hlen] at happend
      rw [exec_of_hostFrame rfl hs hf, happend]
      rfl

/-! ## GF_ALPHA, GF_LOG and RS_GENPOLY -/

/-- A coefficient that exists is answered in log and natural form (R226). -/
theorem genpolyRule_of_coefficient {s : State} {c : Code} {k : Nat} {l : Byte} (hk : k ≤ c.parity)
    (hl : (s.genpoly c)[k]? = some l) :
    genpolyRule c k s = .respond .ok (Word.ofBits l) (Word.ofBits s.alphaTo[l.toNat]) s := by
  have hget : (s.genpoly c).getD k 0 = l := by rw [List.getD_eq_getElem?_getD, hl, Option.getD_some]
  unfold genpolyRule
  simp only [hget]
  exact if_neg (Nat.not_lt.mpr hk)

/-- A selector that names no code, or an index above its parity length, is refused (R226). -/
theorem ruleOf_genpoly_of_bad {s : State} {n k : Nat}
    (hbad : 3 ≤ n ∨ (n = 0 ∧ 16 < k) ∨ (n = 1 ∧ 32 < k) ∨ (n = 2 ∧ 64 < k)) :
    ruleOf (.rsGenpoly n k) s = .raised .badOperand := by
  rcases hbad with hn | ⟨rfl, hk⟩ | ⟨rfl, hk⟩ | ⟨rfl, hk⟩
  · obtain ⟨j, rfl⟩ := Nat.exists_eq_add_of_le' hn
    rfl
  · exact if_pos hk
  · exact if_pos hk
  · exact if_pos hk

theorem codeOperand_of_mem {n : Nat} {c : Code} (h : (n, c) ∈ [(0, Code.p16), (1, .p32), (2, .p64)]) :
    codeOperand n = some c := by
  have hcodes : ∀ r ∈ [(0, Code.p16), (1, .p32), (2, .p64)], codeOperand r.1 = some r.2 := by decide
  exact hcodes _ h

/-- The antilog of A0 is 0 (R200). -/
theorem antilog_a0 : builtTables.alphaTo[255] = 0 := by
  have hentry : builtTables.alphaTo.toList[255]? = some 0 := by
    rw [Laws.built_alpha]
    rfl
  simpa using hentry

/-- Settles O57: on the built tables a generator is its low coefficients and a leading 1, whose log is 0. -/
theorem tableReadRules : Obligations.TableReadRules := by
  have hrowAlpha : rowOf (.gfAlpha 0) = (0xFFFFFF00, 0x90000000) := by decide
  have hrowLog : rowOf (.gfLog 0) = (0xFFFFFF00, 0x94000000) := by decide
  have hrowGen : rowOf (.rsGenpoly 0 0) = (0xFFFFFC80, 0x98000000) := by decide
  refine ⟨encodes_of_row (fun _ => hrowAlpha) fun w => ?_, encodes_of_row (fun _ => hrowLog) fun w => ?_,
    encodes_of_row (fun _ => hrowGen) fun w => ?_, fun _ => ⟨commonChecks_of_gate rfl, commonChecks_of_gate rfl⟩,
    fun _ _ => commonChecks_of_gate rfl, fun s x hs => ⟨?_, ?_⟩, fun s n k hs hbad => ?_,
    fun s n k c l hs hmem hk hl => ?_, fun s c hs ht => ?_⟩
  · exact List.forall_mem_cons.mpr ⟨rfl, List.forall_mem_nil _⟩
  · exact List.forall_mem_cons.mpr ⟨rfl, List.forall_mem_nil _⟩
  · simp [Holds, operands, bits_eq_read]
  · rw [← ofBits_eq_ofNat]
    exact exec_of_respond (c := .ok) hs rfl
  · rw [← ofBits_eq_ofNat]
    exact exec_of_respond (c := .ok) hs rfl
  · exact exec_of_raised (c := .badOperand) hs (ruleOf_genpoly_of_bad hbad)
  · rw [← ofBits_eq_ofNat, ← ofBits_eq_ofNat]
    refine exec_of_respond (c := .ok) hs ?_
    simp only [ruleOf, codeOperand_of_mem hmem]
    exact genpolyRule_of_coefficient hk hl
  · obtain ⟨hgf, hgen⟩ := ht hs.2
    have hlogs : s.genpoly c = (genLow c.parity).map logByte ++ [0] := (hgen c).trans (buildGenLog_eq c.parity)
    have halpha : s.alphaTo = builtTables.alphaTo := congrArg GfTables.alphaTo hgf
    have hindex : s.indexOf = builtTables.indexOf := congrArg GfTables.indexOf hgf
    refine ⟨by simp [hlogs], by simp [hlogs], ?_, ?_⟩
    · rw [halpha]
      exact antilog_a0
    · rw [hindex]
      exact BitVec.eq_of_toNat_eq log_zero

end Sys2Proof.Proofs
end

section
/-!
SUPPORT. The status of every command, the deliveries, and the fatal state: what the common checks and the rules may
report, and what keeps `st.fatal` (spec/60_exceptions.md R240-R250).
-/

namespace Sys2Proof.Proofs

open Sys2Proof.Machine Sys2Proof.Safety

/-! ## The common checks -/

/-- STAT_READ alone runs in the fatal state (R245). -/
theorem gateOf_eq_evenFatal {i : Instr} : gateOf i = .evenFatal ↔ ∃ n, i = .statRead n := by
  cases i <;> simp [gateOf]

/-- The commands that wait for SYS_INIT are all but NOP, SYS_INIT and STAT_READ (R240). -/
theorem gateOf_eq_afterInit {i : Instr} : gateOf i = .afterInit ↔ ¬ BootCommand i := by
  cases i <;> simp [gateOf, BootCommand]

/-- The common checks raise FATAL, or NOT_INIT on an ordinary command (R240). -/
theorem check_eq_some {g : Gate} {s : State} {c : Status} (h : g.check s = some c) :
    (c = .fatal ∧ s.fatal = true ∧ g ≠ .evenFatal) ∨ (c = .notInit ∧ g = .afterInit) := by
  cases g with
  | afterInit =>
    simp only [Gate.check] at h
    split at h
    · next hf => cases h; exact .inl ⟨rfl, hf, by decide⟩
    · split at h <;> cases h
      exact .inr ⟨rfl, rfl⟩
  | always =>
    simp only [Gate.check] at h
    split at h <;> cases h
    next hf => exact .inl ⟨rfl, hf, by decide⟩
  | evenFatal => cases h

/-- Settles O11: the commands that are no boot commands take the ordinary gate. -/
theorem notInitBeforeSysInit : Obligations.NotInitBeforeSysInit := fun s _ hfatal hinit hboot =>
  (commonChecks_of_gate (gateOf_eq_afterInit.mpr hboot) s).2 hfatal hinit

/-! ## The rows of the status table -/

/-- The commands, and for FATAL the state, that the row of a status names (R242). -/
def StatusRow (s : State) (i : Instr) : Status → Prop
  | .ok => True
  | .none => i = .demodProcess ∨ (∃ n b, i = .hdlcRxBit n b) ∨ ∃ n, i = .fx25PickMode n
  | .empty => i = .demodProcess
  | .poolExhausted => i = .frameAcquire ∨ (∃ h b, i = .frameAppend h b) ∨ (∃ h, i = .frameAddFcs h) ∨
      (∃ h, i = .hdlcStuff h) ∨ ∃ m h, i = .rsEncode m h
  | .illegal => False
  | .badHandle => ∃ h, handleOf i = some h
  | .badOperand => (∃ n, i = .statRead n) ∨ (∃ n, i = .demodStart n) ∨ (∃ n b, i = .hdlcRxBit n b) ∨
      (∃ h n, i = .frameRead h n) ∨ (∃ n, i = .fx25Tag n) ∨ (∃ m h, i = .rsEncode m h) ∨ ∃ n k, i = .rsGenpoly n k
  | .badLength => (∃ h, i = .frameParseFcs h) ∨ ∃ m h, i = .rsEncode m h
  | .notInit => ¬ BootCommand i
  | .badState => i = .demodProcess
  | .fatal => (s.fatal = true ∧ ∀ n, i ≠ .statRead n) ∨ i = .sysInit ∨ i = .fx25TagSelftest

/-- A reply R242 allows the command: it responds OK, or NONE where that row names the command, or it raises a status
whose row names the command. -/
def Sanctioned (s : State) (i : Instr) : Reply → Prop
  | .respond c _ _ _ => c = .ok ∨ c = .none ∧ StatusRow s i .none
  | .raised c => StatusRow s i c

section
variable {s : State} {i : Instr}

@[simp] theorem sanctioned_raised {c : Status} : Sanctioned s i (.raised c) ↔ StatusRow s i c := Iff.rfl

theorem sanctioned_ok {v0 v1 : Word} {t : State} : Sanctioned s i (.respond .ok v0 v1 t) := .inl rfl

theorem sanctioned_none {v0 v1 : Word} {t : State} (h : StatusRow s i .none) :
    Sanctioned s i (.respond .none v0 v1 t) := .inr ⟨rfl, h⟩

/-- A command on a frame may raise BAD_HANDLE besides what its rule on a host frame reports (R169). -/
theorem sanctioned_onFrame {h : Nat} {rule : Handle → State → Reply} (hi : handleOf i = some h)
    (hr : ∀ f, Sanctioned s i (rule f s)) : Sanctioned s i (onFrame h rule s) := by
  unfold onFrame
  split
  · exact hr _
  · exact ⟨h, hi⟩

end

theorem processRule_sanctioned (s : State) : Sanctioned s .demodProcess (processRule s) := by
  unfold processRule
  split
  · simp [StatusRow]
  · split
    · simp [StatusRow]
    · split
      · exact sanctioned_ok
      · exact sanctioned_none (by simp [StatusRow])

theorem rxBitRule_sanctioned (s : State) (n : Nat) (b : Bool) (j : InstId) :
    Sanctioned s (.hdlcRxBit n b) (rxBitRule j b s) := by
  unfold rxBitRule
  split
  · exact sanctioned_ok
  · exact sanctioned_none (by simp [StatusRow])

theorem stuffRule_sanctioned (s : State) (h : Nat) (f : Handle) : Sanctioned s (.hdlcStuff h) (stuffRule f s) := by
  have exhausted : StatusRow s (.hdlcStuff h) .poolExhausted := by simp [StatusRow]
  unfold stuffRule
  dsimp only
  split
  · exact exhausted
  · split
    · exact exhausted
    · exact sanctioned_ok

theorem encodeRule_sanctioned (s : State) (m h : Nat) (f : Handle) :
    Sanctioned s (.rsEncode m h) (encodeRule m f s) := by
  unfold encodeRule
  split
  · simp [StatusRow]
  · split
    · simp [StatusRow]
    · split
      · simp [StatusRow]
      · exact sanctioned_ok

theorem genpolyRule_sanctioned (s : State) (n k : Nat) (c : Code) :
    Sanctioned s (.rsGenpoly n k) (genpolyRule c k s) := by
  unfold genpolyRule
  split
  · simp [StatusRow]
  · exact sanctioned_ok

/-- Every rule keeps to the rows of R242; with the spec's constants none enters the fatal state (R201, R217). -/
theorem ruleOf_sanctioned (i : Instr) (s : State) : Sanctioned s i (ruleOf i s) := by
  cases i <;> simp only [ruleOf]
  case nop => exact sanctioned_ok
  case sysInit => rw [sysInitRule_eq]; exact sanctioned_ok
  case statRead sel =>
    split
    · exact sanctioned_ok
    · simp [StatusRow]
  case demodStart tw =>
    split
    · exact sanctioned_ok
    · simp [StatusRow]
  case demodStop => exact sanctioned_ok
  case demodProcess => exact processRule_sanctioned s
  case demodLocked => exact sanctioned_ok
  case hdlcRxBit inst bit =>
    split
    · exact rxBitRule_sanctioned s inst bit _
    · simp [StatusRow]
  case frameAcquire =>
    split
    · simp [StatusRow]
    · exact sanctioned_ok
  case frameRelease h => exact sanctioned_onFrame rfl fun _ => sanctioned_ok
  case frameClear h => exact sanctioned_onFrame rfl fun _ => sanctioned_ok
  case frameAppend h b =>
    refine sanctioned_onFrame rfl fun f => ?_
    split
    · simp [StatusRow]
    · exact sanctioned_ok
  case frameRead h idx =>
    refine sanctioned_onFrame rfl fun f => ?_
    split
    · simp [StatusRow]
    · exact sanctioned_ok
  case frameSize h => exact sanctioned_onFrame rfl fun _ => sanctioned_ok
  case frameSetMeta h src typ => exact sanctioned_onFrame rfl fun _ => sanctioned_ok
  case frameGetMeta h => exact sanctioned_onFrame rfl fun _ => sanctioned_ok
  case frameParseFcs h =>
    refine sanctioned_onFrame rfl fun f => ?_
    split
    · simp [StatusRow]
    · exact sanctioned_ok
  case frameAddFcs h =>
    refine sanctioned_onFrame rfl fun f => ?_
    split
    · simp [StatusRow]
    · exact sanctioned_ok
  case frameOk h => exact sanctioned_onFrame rfl fun _ => sanctioned_ok
  case frameComplete h => exact sanctioned_onFrame rfl fun _ => sanctioned_ok
  case frameGetFcs h => exact sanctioned_onFrame rfl fun _ => sanctioned_ok
  case frameGetCrc h => exact sanctioned_onFrame rfl fun _ => sanctioned_ok
  case hdlcStuff h => exact sanctioned_onFrame rfl (stuffRule_sanctioned s h)
  case fx25PickMode len =>
    have noMode : StatusRow s (.fx25PickMode len) .none := by simp [StatusRow]
    split
    · exact noMode
    · split
      · exact noMode
      · exact sanctioned_ok
  case fx25Tag mode =>
    split
    · simp [StatusRow]
    · exact sanctioned_ok
  case fx25TagSelftest => rw [tagSelftestRule_eq]; exact sanctioned_ok
  case rsEncode mode h => exact sanctioned_onFrame rfl (encodeRule_sanctioned s mode h)
  case gfAlpha x => exact sanctioned_ok
  case gfLog x => exact sanctioned_ok
  case rsGenpoly sel idx =>
    split
    · simp [StatusRow]
    · exact genpolyRule_sanctioned s sel idx _

/-! ## Refused commands -/

/-- Settles O12: a rule responds only OK or NONE, so a refused status was raised, by it or by the common checks. -/
theorem refusedCommandChangesOnlyResponses : Obligations.RefusedCommandChangesOnlyResponses := by
  intro i s t h hrefused
  have okNotRefused : ¬ RefusedCode (Word.ofBits Status.ok.code) := by unfold RefusedCode; decide
  have noneNotRefused : ¬ RefusedCode (Word.ofBits Status.none.code) := by unfold RefusedCode; decide
  rcases exec_cases h with ⟨c, rfl⟩ | ⟨-, rfl⟩
  · rfl
  · have hrule := ruleOf_sanctioned i s
    cases hr : ruleOf i s with
    | raised c => rfl
    | respond c v0 v1 u =>
      rw [hr] at hrule hrefused
      rcases hrule with rfl | ⟨rfl, -⟩
      · exact absurd hrefused okNotRefused
      · exact absurd hrefused noneNotRefused

/-! ## Every status from its row -/

/-- The codes of the table are all different (R242). -/
theorem statusWord_injective (c d : Status) : Word.ofBits c.code = Word.ofBits d.code → c = d := by
  cases c <;> cases d <;> decide

/-- A sanctioned reply leaves the code of a status whose row names the command in STATUS. -/
theorem Sanctioned.status {s : State} {i : Instr} {r : Reply} (hr : Sanctioned s i r) :
    ∃ c, (r.finish s).status = Word.ofBits c.code ∧ StatusRow s i c := by
  cases r with
  | raised c => exact ⟨c, rfl, hr⟩
  | respond c v0 v1 t =>
    rcases hr with rfl | ⟨rfl, hrow⟩
    · exact ⟨.ok, rfl, trivial⟩
    · exact ⟨.none, rfl, hrow⟩

/-- A command answers with a status whose row names it (R242). -/
theorem exec_status (i : Instr) (s : State) :
    ∃ t c, exec i s = .next t ∧ t.status = Word.ofBits c.code ∧ StatusRow s i c := by
  obtain ⟨t, ht⟩ := command_answers (gateOf i) (ruleOf i) s
  refine ⟨t, ?_⟩
  rw [exec_eq_command]
  rcases command_next ht with ⟨c, hc, rfl⟩ | ⟨-, rfl⟩
  · refine ⟨c, ht, rfl, ?_⟩
    rcases check_eq_some hc with ⟨rfl, hfatal, hgate⟩ | ⟨rfl, hgate⟩
    · exact .inl ⟨hfatal, fun n hi => hgate (gateOf_eq_evenFatal.mpr ⟨n, hi⟩)⟩
    · exact gateOf_eq_afterInit.mp hgate
  · obtain ⟨c, hc⟩ := (ruleOf_sanctioned i s).status
    exact ⟨c, ht, hc⟩

/-- Settles O13: the code in STATUS is that of one status, and the row of that status names the command. -/
theorem statusCodesOnlyFromTheirCommands : Obligations.StatusCodesOnlyFromTheirCommands := by
  intro i s
  obtain ⟨t, c, ht, hstatus, hrow⟩ := exec_status i s
  have row : ∀ d : Status, t.status = Word.ofBits d.code → StatusRow s i d := fun d hd => by
    rwa [← statusWord_injective c d (hstatus.symm.trans hd)]
  refine ⟨t, ht, ?_, row .none, row .empty, row .poolExhausted, row .badHandle, row .badOperand, row .badLength,
    row .notInit, row .badState, row .fatal⟩
  rw [hstatus]
  cases c
  case illegal => exact hrow.elim
  all_goals decide

/-! ## Deliveries -/

section
variable {s : State} {x : List Sample}

/-- While the block is fatal or not running, a delivery is ignored (R250). -/
theorem deliver_of_idle (h : s.fatal = true ∨ s.running = false) : s.deliver x = s :=
  if_pos (by simpa using h)

/-- A block that finds the queue full is dropped and counted (R250). -/
theorem deliver_of_full (hf : s.fatal = false) (hr : s.running = true)
    (hq : s.sampleQueue.length = Config.sbqDepth) :
    s.deliver x = { s with sampleDropCount := s.sampleDropCount + 1 } := by
  simp [State.deliver, hf, hr, hq]

/-- A block that finds room is queued last (R250). -/
theorem deliver_of_room (hf : s.fatal = false) (hr : s.running = true)
    (hq : s.sampleQueue.length ≠ Config.sbqDepth) :
    s.deliver x = { s with sampleQueue := s.sampleQueue ++ [x] } := by
  simp [State.deliver, hf, hr, hq]

end

/-- A step whose action is the delivery of N samples is Deliver on the state with the action taken off (R250). -/
theorem step_of_deliver {s : State} {x : List Sample} {rest : List HostAction} (hs : s.inputs = .deliver x :: rest)
    (hlen : x.length = Config.blockLen) : step s = .next (State.deliver { s with inputs := rest } x) := by
  rcases step_cases s with ⟨hnil, -⟩ | ⟨a, rest', hcons, hstep⟩
  · rw [hs] at hnil; cases hnil
  · obtain ⟨rfl, rfl⟩ := List.cons.inj (hcons.symm.trans hs)
    exact hstep.trans (if_pos hlen)

/-- Settles O15: each clause is one of Deliver's three answers. -/
theorem deliveryQueuesOrDrops : Obligations.DeliveryQueuesOrDrops := by
  intro s x rest hs hlen
  rw [step_of_deliver hs hlen]
  exact ⟨fun h => congrArg Host.Outcome.next (deliver_of_idle h),
    fun hf hr hq => congrArg Host.Outcome.next (deliver_of_full hf hr hq),
    fun hf hr hq => congrArg Host.Outcome.next (deliver_of_room hf hr hq)⟩

/-! ## The fatal state -/

/-- No command changes `st.fatal` with the spec's constants (R201, R217). -/
theorem exec_fatal {i : Instr} {s t : State} (h : exec i s = .next t) : t.fatal = s.fatal := by
  obtain ⟨-, hfatal, -⟩ := controlFlagWriters i s t h
  exact hfatal

theorem execute_fatal {w : Word} {s t : State} (h : execute w s = .next t) : t.fatal = s.fatal := by
  unfold execute at h
  split at h
  · cases h; rfl
  · exact exec_fatal h

theorem writeRegister_fatal {r : Register} {w : Word} {s t : State} (h : writeRegister r w s = .next t) :
    t.fatal = s.fatal := by
  cases r with
  | cmd => exact execute_fatal h
  | status => cases h; rfl
  | value0 => cases h; rfl
  | value1 => cases h; rfl

theorem deliver_fatal (s : State) (x : List Sample) : (s.deliver x).fatal = s.fatal := by
  rcases deliver_cases s x with ⟨-, h⟩ | ⟨-, -, -, h⟩ | ⟨-, -, -, h⟩ <;> rw [h]

/-- Of the environment's actions only reset changes `st.fatal` (R245). -/
theorem perform_fatal {a : HostAction} {s t : State} (ha : a ≠ .reset) (h : perform a s = .next t) :
    t.fatal = s.fatal := by
  cases a with
  | command w => exact writeRegister_fatal (r := .cmd) h
  | write address bytes data =>
    simp only [perform] at h
    split at h
    · exact writeRegister_fatal h
    · cases h
    · cases h
  | read address bytes =>
    simp only [perform] at h
    split at h <;> cases h
    rfl
  | deliver block =>
    simp only [perform] at h
    split at h <;> cases h
    exact deliver_fatal s block
  | reset => exact absurd rfl ha

theorem step_fatal {s t : State} (hreset : s.inputs.head? ≠ some .reset) (h : step s = .next t) :
    t.fatal = s.fatal := by
  rcases step_cases s with ⟨-, hstep⟩ | ⟨a, rest, hcons, hstep⟩
  · rw [hstep] at h
    cases h
    rfl
  · have ha : a ≠ .reset := fun ha => hreset (by rw [hcons, ha]; rfl)
    rw [hstep] at h
    exact perform_fatal (s := { s with inputs := rest }) ha h

/-- Only the words of STAT_READ's row decode to it (R86, R112). -/
theorem statRead_shape {w : Word} {n : Nat} (h : decode w = .ok (.statRead n)) : w &&& 0xFFFFFFF0 = 0x08000000 := by
  have hmatch : matchWord 0x02 = 0x08000000 := by decide
  obtain ⟨hshape, -⟩ := decode_eq_ok_iff.mp h
  exact hshape.trans hmatch

/-- In the fatal state a word that is no STAT_READ is answered FATAL, whether it is legal or not (R240, R245). -/
theorem execute_of_fatal {s : State} {w : Word} (hs : s.fatal = true) (hw : ¬ w &&& 0xFFFFFFF0 = 0x08000000) :
    execute w s = .next (responded s 0x1F 0 0) := by
  unfold execute
  cases hd : decode w with
  | error e =>
    simp only [hs, if_true]
    exact congrArg Host.Outcome.next (raised_eq_responded s .fatal)
  | ok i =>
    refine exec_of_fatal (fun hgate => ?_) hs
    obtain ⟨n, rfl⟩ := gateOf_eq_evenFatal.mp hgate
    exact hw (statRead_shape hd)

/-- The selectors up to 8 name a statistic (R112). -/
theorem statistic_of_le {sel : Nat} (s : State) (h : sel ≤ 8) : ∃ v, s.statistic sel = some v := by
  interval_cases sel <;> exact ⟨_, rfl⟩

/-- Settles O10: the common checks answer every command but STAT_READ, and what writes `st.fatal` is reset alone. -/
theorem fatalStateIsSticky : Obligations.FatalStateIsSticky := by
  refine ⟨fun s w => execute_of_fatal, fun s sel hs hsel => ?_, fun s x hs => deliver_of_idle (.inl hs),
    fun s t hs hreset h => (step_fatal hreset h).trans hs, fun s t i hs h => (exec_fatal h).trans hs⟩
  obtain ⟨v, hv⟩ := statistic_of_le s hsel
  refine ⟨v, exec_statRead_some hv, ?_⟩
  rintro rfl
  obtain rfl : s.stateWord = v := Option.some.inj hv
  obtain ⟨-, -, -, hfatal, -⟩ := stateWord_flags s
  exact hfatal.trans hs

end Sys2Proof.Proofs
end
